-- ==== Sys2Proof/Word.lean ====
section
/-! DEFINITION. The widths of the values the RWF-612 specification treats as bits, and the index types. -/

namespace Sys2Proof

/-- A byte of a line, of a frame or of a small register. -/
abbrev Byte := BitVec 8

/-- A control-space word (R157), an identity word, a digest, a time (R160). -/
abbrev Word32 := BitVec 32

/-- A 36-bit byte address (Table 0-3). -/
abbrev Addr := BitVec 36

/-- A 16-bit sequence number (Table 0-4). -/
abbrev Seq := BitVec 16

/-- An 8-bit session number (Table 0-4). -/
abbrev Session := BitVec 8

/-- A 20-bit line index within an extent (Table 0-4, Table 12-2). -/
abbrev LineIndex := BitVec 20

/-- One of the eight streams. -/
abbrev StreamId := Fin 8

/-- A System Port tag, 0 to 15 (Table 1-1). -/
abbrev SpTag := Fin 16

/-- A Memory Port tag, 0 to 31 (R149). -/
abbrev MpTag := Fin 32

/-- The 64 bytes of one line, byte position 0 first. -/
abbrev LineBytes := Vector Byte 64

end Sys2Proof
end

