-- ==== Sys2Proof/Syntax.lean ====
section
/-! DEFINITION. The commands of the block: one constructor of `Instr` per row of the opcode table, with the row's
operands, and the shapes of those operands (requests, frames, command parameters). -/

namespace Sys2Proof

/-- One addressed byte of a write: its data and its strobe (Table 1-1). -/
structure Lane where
  data : Byte
  strobe : Bool
  deriving DecidableEq, Repr

/-- The operation of a request with its byte count (Table 1-1): a write's count is its number of lanes. -/
inductive BusOp where
  | read (count : Nat)
  | write (lanes : List Lane)
  deriving DecidableEq, Repr

/-- A System Port request (Table 1-1). -/
structure SpRequest where
  tag : SpTag
  addr : Addr
  op : BusOp
  deriving DecidableEq, Repr

/-- The status of a response (R1, R155). -/
inductive Status where
  | okay
  | error
  deriving DecidableEq, Repr

/-- The fields of the command word beside its code (Table 12-8). -/
structure CmdParams where
  stream : StreamId
  granuleCount : BitVec 11
  firstGranule : BitVec 10
  deriving DecidableEq, Repr

/-- HELLO (Table 12-2). `count` is the advert in TRAINING and the credit return in UP. -/
structure HelloFrame where
  number : Byte
  senderUp : Bool
  heard : Bool
  count : Byte
  identity : Word32
  deriving DecidableEq, Repr

/-- REC (Table 12-2). -/
structure RecFrame where
  number : Byte
  target : StreamId
  origin : StreamId
  session : Session
  seq : Seq
  kind : Byte
  line : LineIndex
  mask : BitVec 64
  data : LineBytes
  deriving DecidableEq, Repr

/-- ACK (Table 12-2). -/
structure AckFrame where
  number : Byte
  target : StreamId
  origin : StreamId
  session : Session
  seq : Seq
  credit : Byte
  deriving DecidableEq, Repr

/-- NAK (Table 12-2): `kind` 0 GAP, 1 REFUSED; `value` the expected seq, or the reason code in its low byte. -/
structure NakFrame where
  number : Byte
  target : StreamId
  origin : StreamId
  session : Session
  kind : Byte
  value : BitVec 16
  credit : Byte
  deriving DecidableEq, Repr

/-- OPEN (Table 12-2). -/
structure OpenFrame where
  number : Byte
  target : StreamId
  origin : StreamId
  session : Session
  sizeCode : Byte
  deriving DecidableEq, Repr

/-- OPENED, CLOSE and CLOSED (Table 12-2). -/
structure HandshakeFrame where
  number : Byte
  target : StreamId
  origin : StreamId
  session : Session
  deriving DecidableEq, Repr

/-- REFUSE (Table 12-2). -/
structure RefuseFrame where
  number : Byte
  target : StreamId
  origin : StreamId
  session : Session
  reason : Byte
  deriving DecidableEq, Repr

/-- DGQ (Table 12-2). -/
structure DgqFrame where
  number : Byte
  target : StreamId
  origin : StreamId
  session : Session
  tag : Byte
  firstLine : BitVec 20
  lineCount : BitVec 21
  mark : Seq
  deriving DecidableEq, Repr

/-- DGR (Table 12-2): status 0 OK, 1 DISTURBED, 2 REFUSED, 3 BUSY. -/
structure DgrFrame where
  number : Byte
  target : StreamId
  origin : StreamId
  tag : Byte
  status : Byte
  reason : Byte
  digest : Word32
  deriving DecidableEq, Repr

/-- A frame of one of the eleven kinds of Table 12-1. -/
inductive Frame where
  | hello (f : HelloFrame)
  | record (f : RecFrame)
  | ack (f : AckFrame)
  | nak (f : NakFrame)
  | openStream (f : OpenFrame)
  | opened (f : HandshakeFrame)
  | refuse (f : RefuseFrame)
  | close (f : HandshakeFrame)
  | closed (f : HandshakeFrame)
  | dgq (f : DgqFrame)
  | dgr (f : DgrFrame)
  deriving DecidableEq, Repr

/-- The commands: one constructor per row of spec/opcode_table.json, in the table's order. -/
inductive Instr where
  | headTaking (r : SpRequest)
  | spResponseDelivery
  | slotWaitTimerExpiry
  | combineDeadlineExpiry (stream : StreamId)
  | holdDeadlineExpiry (slot : Fin 4)
  | mpGrant
  | mpResponse (tag : MpTag) (status : Status) (data : LineBytes)
  | transmitGrant
  | helloArrival (f : HelloFrame)
  | recArrival (f : RecFrame)
  | ackArrival (f : AckFrame)
  | nakArrival (f : NakFrame)
  | openArrival (f : OpenFrame)
  | openedArrival (f : HandshakeFrame)
  | refuseArrival (f : RefuseFrame)
  | closeArrival (f : HandshakeFrame)
  | closedArrival (f : HandshakeFrame)
  | dgqArrival (f : DgqFrame)
  | dgrArrival (f : DgrFrame)
  | badFrameArrival
  | unknownKindArrival (kind : Byte)
  | helloTimerExpiry
  | trainingTimerExpiry
  | downRetryExpiry
  | keepaliveTimerExpiry
  | silenceTimerExpiry
  | handshakeTimerExpiry (stream : StreamId)
  | retransmitTimerExpiry (stream : StreamId)
  | ackDelayTimerExpiry (stream : StreamId)
  | responseTimerExpiry
  | responderTimerExpiry
  | openStream (p : CmdParams)
  | openClean (p : CmdParams)
  | reopen (p : CmdParams)
  | close (p : CmdParams)
  | resetStream (p : CmdParams)
  | listen (p : CmdParams)
  | linkEnable (p : CmdParams)
  | linkDisable (p : CmdParams)
  | linkRetrain (p : CmdParams)
  | auditStart (p : CmdParams)
  | auditAbort (p : CmdParams)
  | softReset (p : CmdParams)
  | unknownCommand (code : Byte) (p : CmdParams)
  | softResetCompletion
  | eventPop
  | minimumFreeRead
  | frameCheckErrorCountRead
  | windowEntryWrite (entry : Fin 16) (offset : Fin 4) (value : Word32)
  | streamConfigWrite (stream : StreamId) (offset : Fin 16) (value : Word32)
  | poolLowThresholdWrite (value : Word32)
  | alertEnableWrite (value : Word32)
  | controlWordWrite (address : BitVec 16) (value : Word32)
  | spiBadCommandByte
  | resetNAssert
  | resetNRelease
  | csNRising
  deriving DecidableEq, Repr

end Sys2Proof
end

