-- ==== Sys2Proof/WellFormed.lean ====
section
/-! DEFINITION. Well-formed commands: operands that an interface of the part can carry. -/

namespace Sys2Proof

/-- The byte count of a request's operation (Table 1-1). -/
def BusOp.count : BusOp → Nat
  | .read n => n
  | .write lanes => lanes.length

/-- A System Port request addresses 1 to 64 bytes (Table 1-1). -/
def SpRequest.wf (r : SpRequest) : Bool :=
  decide (1 ≤ r.op.count) && decide (r.op.count ≤ 64)

/-- A kind byte of Table 12-1. -/
def isFrameKind (k : Byte) : Bool :=
  decide (1 ≤ k.toNat) && decide (k.toNat ≤ 11)

/-- A command code of Table 12-8. -/
def isCommandCode (c : Byte) : Bool :=
  [0x01#8, 0x02#8, 0x03#8, 0x04#8, 0x05#8, 0x06#8, 0x10#8, 0x11#8, 0x12#8, 0x20#8, 0x21#8, 0x5A#8].contains c

/-- A command whose operands its interface can carry. Every other operand is bounded by its type. -/
def Instr.wf : Instr → Bool
  | .headTaking r => r.wf
  | .unknownKindArrival k => !isFrameKind k
  | .unknownCommand code _ => !isCommandCode code
  | _ => true

end Sys2Proof
end

