-- ==== Sys2Proof/Config.lean ====
section
/-! DEFINITION. The free values: what the specification leaves open. -/

namespace Sys2Proof

/-- The free order choices (log 5, log 19): where one event owes two effects and no rule orders
them, the n-th such choice of a run. Nothing constrains it. -/
opaque Config.freeChoice : Nat → Bool

/-- The data bytes that no rule gives (log 48): the n-th free choice of a run, at a byte position. Nothing constrains
it. -/
opaque Config.freeByte : Nat → Nat → Byte

end Sys2Proof
end

