-- ==== Sys2Proof/Machine/State.lean ====
section
/-! DEFINITION. The state of the RWF-612, its reset value, and the reasons a step can stop. -/

namespace Sys2Proof.Machine

/-- A time of the microsecond time counter (R160). -/
abbrev Time := Word32

/-- A timer: stopped, or running with its expiry time. -/
abbrev Timer := Option Time

/-! ### Window Table (Table 1-3) -/

inductive WindowKind where
  | pass | mirror | gated | guarded
  deriving DecidableEq, Repr

structure Window where
  enable : Bool
  kind : WindowKind
  base : Addr
  sizeCode : Nat
  stream : StreamId
  deriving DecidableEq, Repr

/-! ### Records (Table 2-1) -/

inductive RecordKind where
  | data | copy | void
  deriving DecidableEq, Repr

inductive RecordState where
  | captured | ready | sent
  deriving DecidableEq, Repr

/-- The bytes of a record, a write or an Apply Queue entry: one cell (byte position, byte) per masked position, in
strictly rising order of position. The byte mask is the set of positions. -/
abbrev Payload := List (Nat × Byte)

structure Record where
  slot : Nat
  stream : StreamId
  session : Session
  seq : Seq
  kind : RecordKind
  line : LineIndex
  payload : Payload
  state : RecordState
  pendingWrites : Nat
  discard : Bool
  deadline : Timer
  deriving DecidableEq, Repr

/-- The free list and the two monitors of the Record Pool (R21, R42, R43). -/
structure Pool where
  freeList : List Nat
  minFree : Nat
  lowArmed : Bool
  deriving DecidableEq, Repr

/-! ### Streams (Tables 3-1, 3-2, 5-1, 6-2) -/

inductive Direction where
  | send | receive
  deriving DecidableEq, Repr

inductive Policy where
  | track | stall
  deriving DecidableEq, Repr

/-- Table 3-1. Timeouts are held in the units of the table. -/
structure StreamConfig where
  direction : Direction
  extentBase : Addr
  sizeCode : Nat
  peer : StreamId
  reserve : Nat
  limit : Nat
  policy : Policy
  stallTimeout : Nat
  combineHold : Nat
  ackTimeout : Nat
  retryLimit : Nat
  autoReopen : Bool
  deriving DecidableEq, Repr

/-- The states of both state machines, numbered as section 12.2 numbers them. -/
inductive StreamState where
  | off | opening | resync | active | degraded | closing | listen | bound
  deriving DecidableEq, Repr

/-- Table 3-3. -/
inductive Cause where
  | none | command | autoReopen | opened | dirty | clean | peerRefused | openTimeout | retryExhausted | copyError
  | linkDown | closed | closeTimeout | peerOpen | peerClose | applyRefused
  deriving DecidableEq, Repr

/-- Table 12-3. -/
inductive Reason where
  | none | notListening | direction | size | peer | notBound | range | memory | expired | busy | localChange | late
  | apply | command | stream
  deriving DecidableEq, Repr

/-- The granule under copy and the line within it (R127). -/
structure CopyPos where
  granule : Nat
  line : Nat
  deriving DecidableEq, Repr

inductive NakBody where
  | gap (expected : Seq)
  | refused (reason : Reason)
  deriving DecidableEq, Repr

/-- A filled NAK slot (R108). -/
structure NakSlot where
  target : StreamId
  session : Session
  body : NakBody
  deriving DecidableEq, Repr

structure Stream where
  cfg : StreamConfig
  state : StreamState
  cause : Cause
  reason : Reason
  session : Session
  nextSeq : Seq
  ackedSeq : Seq
  sentSeq : Seq
  retryCount : Nat
  /-- R52: the OPEN or CLOSE of the stream is due. -/
  handshakeDue : Bool
  handshakeTimer : Timer
  /-- R59: the CLOSE of this CLOSING has been transmitted. -/
  closeSent : Bool
  cursor : Option Seq
  retransmitTimer : Timer
  /-- Oldest first (R22). -/
  sendList : List Record
  /-- Dirty granules in rising order (R124). -/
  dirty : List Nat
  copyPos : Option CopyPos
  acceptSeq : Seq
  appliedSeq : Seq
  nakOutstanding : Bool
  unacked : Nat
  ackDelayTimer : Timer
  ackCount : Nat
  nakSlot : Option NakSlot
  deriving DecidableEq, Repr

/-! ### Partner Link (Table 4-1) and the link transmit arbiter (R82) -/

inductive LinkState where
  | off | down | training | up
  deriving DecidableEq, Repr

/-- Class 2: the standing ACK and NAK requests. -/
inductive AckNakReq where
  | ack (stream : StreamId)
  | nak (stream : StreamId)
  deriving DecidableEq, Repr

/-- Class 3: the due OPEN or CLOSE of a stream, the CLOSE of a RESET_STREAM, and the three answers. -/
inductive HandshakeReq where
  | openDue (stream : StreamId)
  | closeDue (stream : StreamId)
  | resetClose (stream : StreamId) (session : Session)
  | opened (stream target : StreamId) (session : Session)
  | refuse (stream target : StreamId) (session : Session) (reason : Reason)
  | closed (stream target : StreamId) (session : Session)
  deriving DecidableEq, Repr

/-- Class 4: the initiator's DGQ and the two DGR slots. -/
inductive AuditReq where
  | dgq
  | dgrResult
  | dgrImmediate
  deriving DecidableEq, Repr

structure Link where
  state : LinkState
  confirmed : Bool
  heard : Bool
  heardSent : Bool
  lastAdvert : Nat
  credits : Nat
  txNumber : Byte
  rxNumber : Byte
  frameErrors : Nat
  partnerId : Word32
  recPointer : StreamId
  helloTimer : Timer
  trainingTimer : Timer
  downTimer : Timer
  keepaliveTimer : Timer
  silenceTimer : Timer
  helloRequest : Bool
  class2 : List AckNakReq
  class3 : List HandshakeReq
  class4 : List AuditReq
  deriving DecidableEq, Repr

/-! ### Apply Engine (Table 6-1) -/

inductive ApplyOutcome where
  | okay | error | skipped
  deriving DecidableEq, Repr

/-- Progress and outcome of an entry; an issued entry holds the MP tag of its write (R149). -/
inductive Progress where
  | waiting
  | issued (tag : MpTag)
  | done (outcome : ApplyOutcome)
  deriving DecidableEq, Repr

structure ApplyEntry where
  stream : StreamId
  session : Session
  seq : Seq
  kind : RecordKind
  line : LineIndex
  payload : Payload
  progress : Progress
  stale : Bool
  deriving DecidableEq, Repr

structure ApplyEngine where
  queue : List ApplyEntry
  pendingCredits : Nat
  deriving DecidableEq, Repr

/-! ### Gate Unit (Table 7-2) -/

structure HeldWrite where
  tag : SpTag
  addr : Addr
  lanes : List Lane
  stream : StreamId
  session : Session
  mark : Option Seq
  deadline : Time
  order : Nat
  deriving DecidableEq, Repr

/-! ### Resync Engine (Tables 8-2, 8-3) -/

structure CopyRead where
  stream : StreamId
  session : Session
  line : LineIndex
  lineAddr : Addr
  spoiled : Bool
  deriving DecidableEq, Repr

inductive EngineState where
  | idle
  | waiting (stream : StreamId)
  | requested (stream : StreamId) (session : Session)
  | reading (r : CopyRead)
  deriving DecidableEq, Repr

structure ResyncEngine where
  state : EngineState
  pointer : StreamId
  deriving DecidableEq, Repr

/-! ### Audit Unit (Table 9-1, R145, R148) -/

/-- An audit read issued and not complete, for the current job or for an ended one (R141, R147). -/
inductive ReadOut where
  | none | current | ended
  deriving DecidableEq, Repr

inductive InitiatorState where
  | idle | reading | waiting
  deriving DecidableEq, Repr

structure Initiator where
  state : InitiatorState
  stream : StreamId
  session : Session
  firstLine : Nat
  lineCount : Nat
  nextLine : Nat
  crc : Word32
  disturbed : Bool
  tag : Byte
  mark : Seq
  timer : Timer
  readOut : ReadOut
  dgqDue : Bool
  deriving DecidableEq, Repr

inductive AuditOutcome where
  | none | matched | mismatch | disturbed | refused | timeout | aborted
  deriving DecidableEq, Repr

structure AuditResult where
  outcome : AuditOutcome
  reason : Reason
  tag : Byte
  stream : StreamId
  localDigest : Option Word32
  partnerDigest : Option Word32
  deriving DecidableEq, Repr

inductive ResponderState where
  | idle | armed | reading
  deriving DecidableEq, Repr

structure Responder where
  state : ResponderState
  stream : StreamId
  session : Session
  origin : StreamId
  firstLine : Nat
  lineCount : Nat
  mark : Seq
  tag : Byte
  nextLine : Nat
  crc : Word32
  disturbed : Bool
  timer : Timer
  readOut : ReadOut
  deriving DecidableEq, Repr

inductive DgrStatus where
  | ok | disturbed | refused | busy
  deriving DecidableEq, Repr

/-- A filled DGR slot: the answering stream and the fields of the frame. -/
structure DgrAnswer where
  stream : StreamId
  target : StreamId
  tag : Byte
  status : DgrStatus
  reason : Reason
  digest : Word32
  deriving DecidableEq, Repr

structure AuditUnit where
  initiator : Initiator
  result : AuditResult
  responder : Responder
  resultSlot : Option DgrAnswer
  immediateSlot : Option DgrAnswer
  deriving DecidableEq, Repr

/-! ### Memory Port (R149 to R152) -/

/-- What a through write's response also acts on: nothing, its record's slot, or a tracked line (R155, R156). -/
inductive WriteUse where
  | plain
  | bound (stream : StreamId) (slot : Nat)
  | tracked (stream : StreamId) (line : LineIndex)
  deriving DecidableEq, Repr

structure ThroughReq where
  req : SpRequest
  use : WriteUse
  deriving DecidableEq, Repr

inductive MpOwner where
  | through (use : WriteUse)
  | apply
  | copy
  | initiator
  | responder
  deriving DecidableEq, Repr

structure MpRequest where
  tag : MpTag
  addr : Addr
  op : BusOp
  owner : MpOwner
  deriving DecidableEq, Repr

inductive Side where
  | through | internal
  deriving DecidableEq, Repr

inductive Reader where
  | copy | initiator | responder
  deriving DecidableEq, Repr

structure MemoryPort where
  throughQueue : List ThroughReq
  outstanding : List MpRequest
  lastSide : Side
  readerPointer : Reader
  deriving DecidableEq, Repr

/-! ### System Port -/

structure SpResponse where
  tag : SpTag
  status : Status
  data : List Byte
  deriving DecidableEq, Repr

/-- The slot-wait timer runs for a stream (R13). -/
structure SlotWait where
  stream : StreamId
  expiry : Time
  deriving DecidableEq, Repr

structure SystemPort where
  /-- The requests presented on the request channel; the front one is the head (R2). -/
  channel : List SpRequest
  slotWait : Option SlotWait
  responses : List SpResponse
  deriving DecidableEq, Repr

/-! ### Management Port and Event Queue -/

inductive SpiKind where
  | idle | read | write | bad
  deriving DecidableEq, Repr

/-- What MISO carries in a stretch of a transaction (R157): 00H in the command and address bytes, the transaction
status, or a word's value. -/
inductive Miso where
  | zero
  | status (refused : Bool)
  | word (value : Word32)
  deriving DecidableEq, Repr

/-- The port's own state (R157): the kind of the transaction under way, the address that its next word is placed at,
and whether the transaction status is REFUSED; and what MISO has carried since the port's last event (log 10). -/
structure SpiPort where
  kind : SpiKind
  address : BitVec 16
  refused : Bool
  miso : List Miso
  deriving DecidableEq, Repr

inductive CommandOutcome where
  | none | done | refusedState | refusedParam
  deriving DecidableEq, Repr

structure CommandResult where
  outcome : CommandOutcome
  code : Byte
  stream : StreamId
  deriving DecidableEq, Repr

/-- `reads` holds the addresses of the words that the controller reads next beside the rows of the table: like the
request channel it is driven from outside the part (log 33). -/
structure Management where
  spi : SpiPort
  reads : List (BitVec 16)
  commandWord : Word32
  result : CommandResult
  deriving DecidableEq, Repr

/-- Table 11-3. -/
inductive EventCode where
  | none | reset | linkUp | linkDown | linkRetrain | protocolError | streamState | poolLow | gateRefused | gateTimeout
  | guardViolation | memError | applyError | auditDone
  deriving DecidableEq, Repr

structure Event where
  code : EventCode
  stream : Option StreamId
  detail : BitVec 20
  time : Time
  deriving DecidableEq, Repr

structure EventQueue where
  entries : List Event
  lost : Bool
  latchedTime : Time
  time : Time
  deriving DecidableEq, Repr

/-- The global configuration fields (Table 12-5), in the units of their tables. -/
structure GlobalConfig where
  poolLowThreshold : Nat
  trainingTimeout : Nat
  downRetry : Nat
  keepalive : Nat
  silence : Nat
  holdTimeout : Nat
  auditTimeout : Nat
  ackBatch : Nat
  ackDelay : Nat
  alertEnable : Bool
  deriving DecidableEq, Repr

/-- The model's own output fields: what the bus ports and the lane carried last (log 10). -/
structure Outputs where
  spResponse : Option SpResponse
  mpRequest : Option MpRequest
  frame : Option Frame
  deriving DecidableEq, Repr

/-- A STREAM_STATE event owed at the end of the event under way (R49, log 6). -/
structure OwedEvent where
  stream : StreamId
  detail : BitVec 20
  deriving DecidableEq, Repr

/-- Everything the specification gives the part, the model's output fields, and the queue of waiting commands. -/
structure State where
  sp : SystemPort
  windows : Vector Window 16
  pool : Pool
  streams : Vector Stream 8
  link : Link
  apply : ApplyEngine
  holds : Vector (Option HeldWrite) 4
  engine : ResyncEngine
  audit : AuditUnit
  mp : MemoryPort
  mgmt : Management
  events : EventQueue
  global : GlobalConfig
  softReset : Bool
  resetAsserted : Bool
  out : Outputs
  owed : List OwedEvent
  choices : Nat
  pending : List Instr
  deriving DecidableEq, Repr

/-- Operands that no interface of the part carries. Safe: the machine stops where the hardware has no such event. -/
inductive Fault where
  /-- Raised by HEAD_TAKING: the request's byte count is outside 1 to 64 (Table 1-1). Safe. -/
  | byteCountOutOfRange
  /-- Raised by UNKNOWN_KIND_ARRIVAL: the kind is one of Table 12-1. Safe. -/
  | kindIsKnown
  deriving DecidableEq, Repr

inductive Refusal where
  /-- Raised by an arm of exec whose command has no meaning yet. Safe. -/
  | notModelled (mnemonic : String)
  deriving DecidableEq, Repr

/-! ### Reset values -/

/-- Table 1-3. -/
def Window.reset : Window :=
  { enable := false, kind := .pass, base := 0#36, sizeCode := 0, stream := 0 }

/-- R21, R42, R43. -/
def Pool.reset : Pool :=
  { freeList := List.range 512, minFree := 512, lowArmed := true }

/-- Table 3-1. -/
def StreamConfig.reset : StreamConfig :=
  { direction := .send, extentBase := 0#36, sizeCode := 0, peer := 0, reserve := 0, limit := 0, policy := .track,
    stallTimeout := 100, combineHold := 0, ackTimeout := 50, retryLimit := 4, autoReopen := false }

/-- Tables 3-1, 3-2, 5-1 and 6-2; R45, R108, R124, R127. -/
def Stream.reset : Stream :=
  { cfg := StreamConfig.reset, state := .off, cause := .none, reason := .none, session := 0#8, nextSeq := 0#16,
    ackedSeq := 0#16, sentSeq := 0#16, retryCount := 0, handshakeDue := false, handshakeTimer := none,
    closeSent := false, cursor := none, retransmitTimer := none, sendList := [], dirty := [], copyPos := none,
    acceptSeq := 0#16, appliedSeq := 0#16, nakOutstanding := false, unacked := 0, ackDelayTimer := none,
    ackCount := 0, nakSlot := none }

/-- Table 4-1. -/
def Link.reset : Link :=
  { state := .off, confirmed := false, heard := false, heardSent := false, lastAdvert := 0, credits := 0,
    txNumber := 0#8, rxNumber := 0#8, frameErrors := 0, partnerId := 0#32, recPointer := 7, helloTimer := none,
    trainingTimer := none, downTimer := none, keepaliveTimer := none, silenceTimer := none, helloRequest := false,
    class2 := [], class3 := [], class4 := [] }

/-- Table 9-1. The running CRC has no reset value in the table (log 18). -/
def Initiator.reset : Initiator :=
  { state := .idle, stream := 0, session := 0#8, firstLine := 0, lineCount := 0, nextLine := 0, crc := 0#32,
    disturbed := false, tag := 0#8, mark := 0#16, timer := none, readOut := .none, dgqDue := false }

/-- Table 9-1. -/
def AuditResult.reset : AuditResult :=
  { outcome := .none, reason := .none, tag := 0#8, stream := 0, localDigest := none, partnerDigest := none }

/-- R145. Only the state, the read flag and the timer are given (log 18). -/
def Responder.reset : Responder :=
  { state := .idle, stream := 0, session := 0#8, origin := 0, firstLine := 0, lineCount := 0, mark := 0#16,
    tag := 0#8, nextLine := 0, crc := 0#32, disturbed := false, timer := none, readOut := .none }

/-- R138, R145, R148. -/
def AuditUnit.reset : AuditUnit :=
  { initiator := Initiator.reset, result := AuditResult.reset, responder := Responder.reset, resultSlot := none,
    immediateSlot := none }

/-- R149 to R152. -/
def MemoryPort.reset : MemoryPort :=
  { throughQueue := [], outstanding := [], lastSide := .internal, readerPointer := .responder }

/-- R157: no transaction, nothing carried. -/
def SpiPort.reset : SpiPort := { kind := .idle, address := 0#16, refused := false, miso := [] }

/-- R157, R159. -/
def Management.reset : Management :=
  { spi := SpiPort.reset, reads := [], commandWord := 0#32,
    result := { outcome := .none, code := 0#8, stream := 0 } }

/-- R160, R161. -/
def EventQueue.reset : EventQueue :=
  { entries := [], lost := false, latchedTime := 0#32, time := 0#32 }

/-- R42, R68, R99, R116, R139, R162. -/
def GlobalConfig.reset : GlobalConfig :=
  { poolLowThreshold := 64, trainingTimeout := 10, downRetry := 10, keepalive := 10, silence := 40,
    holdTimeout := 2000, auditTimeout := 50, ackBatch := 4, ackDelay := 20, alertEnable := false }

/-- The part at the release of RESET_N (R165). -/
def State.reset : State :=
  { sp := { channel := [], slotWait := none, responses := [] },
    windows := Vector.replicate 16 Window.reset,
    pool := Pool.reset,
    streams := Vector.replicate 8 Stream.reset,
    link := Link.reset,
    apply := { queue := [], pendingCredits := 0 },
    holds := Vector.replicate 4 none,
    engine := { state := .idle, pointer := 7 },
    audit := AuditUnit.reset,
    mp := MemoryPort.reset,
    mgmt := Management.reset,
    events := EventQueue.reset,
    global := GlobalConfig.reset,
    softReset := false,
    resetAsserted := false,
    out := { spResponse := none, mpRequest := none, frame := none },
    owed := [],
    choices := 0,
    pending := [] }

end Sys2Proof.Machine
end

