-- ==== Sys2Proof/Machine/Operands.lean ====
section
/-! DEFINITION. Operand forms: sequence comparison, extent and granule geometry, request lines and byte sets,
record payloads, bit fields of control-space words. -/

namespace Sys2Proof.Machine

/-! ### Sequence comparison (section 0.5) -/

/-- a is after b: (a − b) mod 65536 lies in 1 to 32767. -/
def seqAfter (a b : Seq) : Bool :=
  decide (1 ≤ (a - b).toNat) && decide ((a - b).toNat ≤ 32767)

/-- a is before b: b is after a. -/
def seqBefore (a b : Seq) : Bool := seqAfter b a

/-- a is at or after b. -/
def seqAtOrAfter (a b : Seq) : Bool := a == b || seqAfter a b

/-- e lies in (x, y]: after x and not after y. -/
def inSeqRange (e x y : Seq) : Bool := seqAfter e x && !seqAfter e y

/-! ### Cyclic order of streams (R82, R128) -/

def allStreams : List StreamId := [0, 1, 2, 3, 4, 5, 6, 7]

/-- The streams from the one after p through 7 and on from 0, ending at p. -/
def cyclicAfter (p : StreamId) : List StreamId :=
  [p + 1, p + 2, p + 3, p + 4, p + 5, p + 6, p + 7, p]

def allSlots : List (Fin 4) := [0, 1, 2, 3]

/-! ### Extent geometry (Table 0-5) -/

/-- The lines of the extent: 64 × 2^(size code). -/
def StreamConfig.lines (c : StreamConfig) : Nat := 64 * 2 ^ c.sizeCode

/-- The bytes of the extent: 4 KiB × 2^(size code) (R44). -/
def StreamConfig.bytes (c : StreamConfig) : Nat := 4096 * 2 ^ c.sizeCode

/-- The lines per granule: a granule is the larger of 64 B and one 1024th of the extent. -/
def StreamConfig.linesPerGranule (c : StreamConfig) : Nat := max 1 (c.lines / 1024)

/-- The granule count: the smaller of 1024 and the line count. -/
def StreamConfig.granules (c : StreamConfig) : Nat := min 1024 c.lines

/-- The granule of a line (R124). -/
def StreamConfig.granuleOf (c : StreamConfig) (line : LineIndex) : Nat := line.toNat / c.linesPerGranule

/-- The line of an address: its six lowest bits cleared (section 1.1). -/
def lineOf (a : Addr) : Addr := a &&& ~~~(63#36)

/-- The byte position of an address: address modulo 64 (R20). -/
def bytePos (a : Addr) : Nat := a.toNat % 64

/-- The line index of an address within the extent: its line minus the extent base, divided by 64 (R20). -/
def StreamConfig.lineIndex (c : StreamConfig) (a : Addr) : LineIndex :=
  BitVec.ofNat 20 ((lineOf a - c.extentBase).toNat / 64)

/-- The address of a line of the extent: the extent base plus 64 times the line index (R103, R127, R141). -/
def StreamConfig.lineAddr (c : StreamConfig) (line : Nat) : Addr := c.extentBase + BitVec.ofNat 36 (64 * line)

/-- The line index of a copy position (section 8.2). -/
def StreamConfig.copyLine (c : StreamConfig) (p : CopyPos) : Nat := p.granule * c.linesPerGranule + p.line

/-- The extent base is a multiple of the extent size (R50). -/
def StreamConfig.aligned (c : StreamConfig) : Bool := c.extentBase.toNat % c.bytes == 0

/-! ### Windows (R5, R6) -/

/-- The window's size: 64 × 2^(size code) bytes. -/
def Window.bytes (w : Window) : Nat := 64 * 2 ^ w.sizeCode

/-- An enabled entry matches an address in [base, base + size). -/
def Window.holds (w : Window) (a : Addr) : Bool :=
  w.enable && decide (w.base.toNat ≤ a.toNat) && decide (a.toNat < w.base.toNat + w.bytes)

/-- An enabled MIRROR, GATED or GUARDED entry names its stream; a PASS entry names none (R9). -/
def Window.names (w : Window) (i : StreamId) : Bool :=
  w.enable && (w.kind != .pass) && (w.stream == i)

/-! ### Payloads -/

/-- Writes one byte at a position, replacing the byte there (R28). -/
def Payload.put : Payload → Nat × Byte → Payload
  | [], c => [c]
  | d :: rest, c => if c.1 < d.1 then c :: d :: rest else if c.1 = d.1 then c :: rest else d :: Payload.put rest c

/-- Merges a write's bytes into a record's: each written byte replaces, every other keeps (R28). -/
def Payload.merge (old new : Payload) : Payload := new.foldl Payload.put old

/-- The byte at a position, absent outside the mask. -/
def Payload.at? (p : Payload) (n : Nat) : Option Byte := (p.find? (fun c => c.1 == n)).map (·.2)

/-- The byte mask: bit n stands for byte position n (Table 12-2). -/
def Payload.mask (p : Payload) : BitVec 64 := p.foldl (fun m c => m ||| (1#64 <<< c.1)) 0#64

/-- The 64 bytes of a line by position. -/
def lineBytes (f : Nat → Byte) : LineBytes := ⟨((List.range 64).map f).toArray, by simp⟩

/-- The data field of a REC frame: 00H at positions outside the mask (Table 12-2). -/
def Payload.data (p : Payload) : LineBytes := lineBytes (fun n => (p.at? n).getD 0#8)

/-- The byte at a position of a line. -/
def byteAt (d : LineBytes) (n : Nat) : Byte := d.toList.getD n 0#8

/-- The payload a mask selects from a line's bytes. -/
def Payload.ofMask (m : BitVec 64) (d : LineBytes) : Payload :=
  (List.range 64).filterMap (fun n => if m.getLsbD n then some (n, byteAt d n) else none)

/-- All 64 bytes of a line (R26). -/
def Payload.ofLine (d : LineBytes) : Payload := (List.range 64).map (fun n => (n, byteAt d n))

/-- Full-line lanes with a strobe at each masked position (R103, Table 10-1). The rules give no data at the others:
free gives it (log 48). -/
def Payload.lanes (p : Payload) (free : Nat → Byte) : List Lane :=
  (List.range 64).map (fun n =>
    match p.at? n with
    | some b => { data := b, strobe := true }
    | none => { data := free n, strobe := false })

/-- The byte set of a write with its bytes, from a byte position on (section 1.1). -/
def lanesPayload : Nat → List Lane → Payload
  | _, [] => []
  | n, l :: rest => if l.strobe then (n, l.data) :: lanesPayload (n + 1) rest else lanesPayload (n + 1) rest

end Sys2Proof.Machine

namespace Sys2Proof

open Machine

/-! ### Requests (Table 1-1, R3, R4) -/

/-- R3: address modulo 64 plus the byte count exceeds 64. -/
def SpRequest.crossesLine (r : SpRequest) : Bool := decide (bytePos r.addr + r.op.count > 64)

/-- The bytes a write writes, by position; empty for a read. -/
def SpRequest.payload (r : SpRequest) : Payload :=
  match r.op with
  | .read _ => []
  | .write lanes => lanesPayload (bytePos r.addr) lanes

/-- R4: a write whose byte set is empty. -/
def SpRequest.emptyWrite (r : SpRequest) : Bool :=
  match r.op with
  | .read _ => false
  | .write lanes => lanes.all (fun l => !l.strobe)

def SpRequest.isWrite (r : SpRequest) : Bool :=
  match r.op with
  | .read _ => false
  | .write _ => true

end Sys2Proof

namespace Sys2Proof.Machine

/-- The bytes a response carries: a read's addressed bytes with OKAY, 00H with ERROR, none for a write (R1). -/
def responseData (op : BusOp) (a : Addr) (st : Status) (d : LineBytes) : List Byte :=
  match op, st with
  | .read n, .okay => (List.range n).map (fun k => byteAt d (bytePos a + k))
  | .read n, .error => List.replicate n 0#8
  | .write _, _ => []

/-! ### Bit fields of control-space words -/

/-- The field of n bits at bit lo. -/
def fieldOf (w : Word32) (lo n : Nat) : Nat := (w.extractLsb' lo n).toNat

/-- The bit at a position. -/
def bitOf (w : Word32) (k : Nat) : Bool := w.getLsbD k

/-- A 3-bit stream field. -/
def streamField (w : Word32) (lo : Nat) : StreamId := Fin.ofNat 8 (fieldOf w lo 3)

/-- A value in the field of width bits at bit lo of a word: no other bit is set (R170). -/
def putField (v lo width : Nat) : Word32 := (BitVec.ofNat width v).setWidth 32 <<< lo

/-- One bit placed in a word. -/
def putBit (b : Bool) (k : Nat) : Word32 := if b then 1#32 <<< k else 0#32

/-! ### Codes (section 12.2, Tables 12-3, 12-6 to 12-9) -/

def StreamState.code : StreamState → Nat
  | .off => 0 | .opening => 1 | .resync => 2 | .active => 3 | .degraded => 4 | .closing => 5 | .listen => 6
  | .bound => 7

def Cause.code : Cause → Nat
  | .none => 0 | .command => 1 | .autoReopen => 2 | .opened => 3 | .dirty => 4 | .clean => 5 | .peerRefused => 6
  | .openTimeout => 7 | .retryExhausted => 8 | .copyError => 9 | .linkDown => 10 | .closed => 11
  | .closeTimeout => 12 | .peerOpen => 13 | .peerClose => 14 | .applyRefused => 15

def Reason.code : Reason → Nat
  | .none => 0 | .notListening => 1 | .direction => 2 | .size => 3 | .peer => 4 | .notBound => 5 | .range => 6
  | .memory => 7 | .expired => 8 | .busy => 9 | .localChange => 10 | .late => 11 | .apply => 12 | .command => 13
  | .stream => 14

/-- The reason a code of Table 12-3 names. -/
def Reason.ofCode : Nat → Option Reason
  | 0 => some .none | 1 => some .notListening | 2 => some .direction | 3 => some .size | 4 => some .peer
  | 5 => some .notBound | 6 => some .range | 7 => some .memory | 8 => some .expired | 9 => some .busy
  | 10 => some .localChange | 11 => some .late | 12 => some .apply | 13 => some .command | 14 => some .stream
  | _ => Option.none

def WindowKind.code : WindowKind → Nat
  | .pass => 0 | .mirror => 1 | .gated => 2 | .guarded => 3

def WindowKind.ofCode : Nat → WindowKind
  | 0 => .pass | 1 => .mirror | 2 => .gated | _ => .guarded

def RecordKind.code : RecordKind → Nat
  | .data => 0 | .copy => 1 | .void => 2

/-- R167: the record kind must be 0, 1 or 2. -/
def RecordKind.ofCode : Nat → Option RecordKind
  | 0 => some .data | 1 => some .copy | 2 => some .void | _ => none

def LinkState.code : LinkState → Nat
  | .off => 0 | .down => 1 | .training => 2 | .up => 3

def InitiatorState.code : InitiatorState → Nat
  | .idle => 0 | .reading => 1 | .waiting => 2

def AuditOutcome.code : AuditOutcome → Nat
  | .none => 0 | .matched => 1 | .mismatch => 2 | .disturbed => 3 | .refused => 4 | .timeout => 5 | .aborted => 6

def DgrStatus.code : DgrStatus → Nat
  | .ok => 0 | .disturbed => 1 | .refused => 2 | .busy => 3

def CommandOutcome.code : CommandOutcome → Nat
  | .none => 0 | .done => 1 | .refusedState => 2 | .refusedParam => 3

def EventCode.code : EventCode → Nat
  | .none => 0 | .reset => 1 | .linkUp => 2 | .linkDown => 3 | .linkRetrain => 4 | .protocolError => 5
  | .streamState => 6 | .poolLow => 7 | .gateRefused => 8 | .gateTimeout => 9 | .guardViolation => 10
  | .memError => 11 | .applyError => 12 | .auditDone => 13

end Sys2Proof.Machine
end

