-- ==== Sys2Proof/Machine/Crc.lean ====
section
/-! DEFINITION. The one CRC-32 of digests and frame checks (Table 0-7). -/

namespace Sys2Proof.Machine

/-- The generator 04C11DB7H with its bits reversed, for reflected input and output. -/
def crcPoly : Word32 := BitVec.reverse 0x04C11DB7#32

/-- One bit of reflected input taken into the register. -/
def crcBit (c : Word32) : Word32 := if c.getLsbD 0 then (c >>> 1) ^^^ crcPoly else c >>> 1

/-- One byte taken into the running CRC, least significant bit first. -/
def crcByte (c : Word32) (b : Byte) : Word32 :=
  crcBit (crcBit (crcBit (crcBit (crcBit (crcBit (crcBit (crcBit (c ^^^ b.setWidth 32))))))))

/-- Bytes taken into the running CRC in order. -/
def crcRun (c : Word32) (bs : List Byte) : Word32 := bs.foldl crcByte c

/-- The initial value (Table 0-7). -/
def crcInit : Word32 := 0xFFFFFFFF#32

/-- The CRC-32 of a byte string: the final complement of the run from the initial value. -/
def crc32 (bs : List Byte) : Word32 := ~~~(crcRun crcInit bs)

end Sys2Proof.Machine
end

