-- ==== Sys2Proof/Machine/Ops.lean ====
section
/-! DEFINITION. The named accessors and updates of State, timers, the views that other blocks read (outstanding tags,
held-line set, issue-pending list), and the SP response queue. -/

namespace Sys2Proof.Machine

/-! ### Streams -/

def State.stream (s : State) (i : StreamId) : Stream := s.streams.get i

def State.setStream (s : State) (i : StreamId) (x : Stream) : State :=
  { s with streams := s.streams.set i.val x i.isLt }

def State.modStream (s : State) (i : StreamId) (f : Stream → Stream) : State := s.setStream i (f (s.stream i))

/-- A stream table built entry by entry. -/
def streamTable (f : StreamId → Stream) : Vector Stream 8 :=
  #v[f 0, f 1, f 2, f 3, f 4, f 5, f 6, f 7]

/-- One change made to every stream. -/
def State.mapStreams (s : State) (f : StreamId → Stream → Stream) : State :=
  { s with streams := streamTable (fun i => f i (s.stream i)) }

/-! ### Windows and hold slots -/

def State.window (s : State) (n : Fin 16) : Window := s.windows.get n

def State.setWindow (s : State) (n : Fin 16) (w : Window) : State :=
  { s with windows := s.windows.set n.val w n.isLt }

/-- At least one enabled entry names the stream (R9). -/
def State.named (s : State) (i : StreamId) : Bool := s.windows.toList.any (fun w => w.names i)

/-- The window of a request: the matching entry with the lowest index (R6). -/
def State.windowOf (s : State) (a : Addr) : Option Window := s.windows.toList.find? (fun w => w.holds a)

def State.hold (s : State) (k : Fin 4) : Option HeldWrite := s.holds.get k

def State.setHold (s : State) (k : Fin 4) (h : Option HeldWrite) : State :=
  { s with holds := s.holds.set k.val h k.isLt }

/-! ### Timers -/

/-- A timer started now for a number of microseconds: its expiry in the 32-bit time counter. -/
def State.expiryIn (s : State) (us : Nat) : Time := s.events.time + BitVec.ofNat 32 us

def State.startTimer (s : State) (us : Nat) : Timer := some (s.expiryIn us)

/-! ### Pool views (R21, R36) -/

def State.freeCount (s : State) : Nat := s.pool.freeList.length

def Stream.usage (st : Stream) : Nat := st.sendList.length

def Stream.dirtyCount (st : Stream) : Nat := st.dirty.length

/-- The youngest record of the send list. -/
def Stream.youngest? (st : Stream) : Option Record := st.sendList.getLast?

/-- A record's state is CAPTURED. -/
def Record.captured (r : Record) : Bool := r.state == .captured

def Record.isSent (r : Record) : Bool := r.state == .sent

/-- R23: the state of a record whose last pending local write has completed. -/
def Record.settled (r : Record) : Record :=
  if r.pendingWrites = 0 ∧ r.state = .captured then { r with state := .ready } else r

/-- The outside demand of a stream (R36). -/
def State.outsideDemand (s : State) (i : StreamId) : Nat :=
  (allStreams.map (fun t =>
    if t = i ∨ (s.stream t).state = .off then 0 else (s.stream t).cfg.reserve - (s.stream t).usage)).sum

/-- A slot is allowed to the stream (Table 2-3). -/
def State.slotAllowed (s : State) (i : StreamId) : Bool :=
  decide (1 ≤ s.freeCount) && decide ((s.stream i).usage < (s.stream i).cfg.limit) &&
    (decide ((s.stream i).usage < (s.stream i).cfg.reserve) || decide (s.outsideDemand i < s.freeCount)) &&
    (s.stream i).sendList.all (fun r => !r.discard)

/-! ### Views of the requests on their way (R1, R17, R18) -/

/-- The held-line set holds the line (R17). -/
def State.heldLine (s : State) (line : Addr) : Bool :=
  s.holds.toList.any (fun h => match h with
    | some w => lineOf w.addr == line
    | none => false)

/-- The issue-pending list: the SP tag and line of each write of the through queue (R18, R150). -/
def State.issuePending (s : State) : List (SpTag × Addr) :=
  (s.mp.throughQueue.filter (fun t => t.req.isWrite)).map (fun t => (t.req.tag, lineOf t.req.addr))

/-- An issue-pending entry has the line. -/
def State.linePending (s : State) (line : Addr) : Bool := s.issuePending.any (fun e => e.2 == line)

/-- An outstanding MP request is a through request of the SP tag (Table 10-1: equal tags). -/
def MpRequest.isThroughOf (m : MpRequest) (t : SpTag) : Bool :=
  match m.owner with
  | .through _ => m.tag.val == t.val
  | _ => false

/-- The SP tag is outstanding: from taking until its response is delivered (R1). -/
def State.tagOutstanding (s : State) (t : SpTag) : Bool :=
  s.mp.throughQueue.any (fun q => q.req.tag == t) || s.mp.outstanding.any (fun m => m.isThroughOf t) ||
    s.holds.toList.any (fun h => match h with
      | some w => w.tag == t
      | none => false) ||
    s.sp.responses.any (fun r => r.tag == t)

/-- A response joins the SP response queue (R1). -/
def State.respond (s : State) (t : SpTag) (st : Status) (data : List Byte) : State :=
  { s with sp := { s.sp with responses := s.sp.responses ++ [{ tag := t, status := st, data := data }] } }

/-- A request joins the through queue; for a write this is its issue-pending entry too (R18, R150). -/
def State.joinThrough (s : State) (r : SpRequest) (u : WriteUse) : State :=
  { s with mp := { s.mp with throughQueue := s.mp.throughQueue ++ [{ req := r, use := u }] } }

/-! ### Performing events (R19) -/

/-- The initiator's audit span holds the line (R19): READING, and the line within the job's range. -/
def State.inAuditSpan (s : State) (line : Addr) : Bool :=
  let j := s.audit.initiator
  let base := (s.stream j.stream).cfg.extentBase.toNat
  (j.state == .reading) && decide (base + 64 * j.firstLine ≤ line.toNat) &&
    decide (line.toNat < base + 64 * (j.firstLine + j.lineCount))

/-- A performing event on the copy line spoils the copy read in flight (R19, R132). -/
def EngineState.spoil (e : EngineState) (line : Addr) : EngineState :=
  match e with
  | .reading r => .reading { r with spoiled := r.spoiled || (r.lineAddr == line) }
  | e => e

/-- A performing event compares the write's line with the copy line and the audit span (R19). -/
def State.perform (s : State) (line : Addr) : State :=
  { s with
    engine := { s.engine with state := s.engine.state.spoil line }
    audit := { s.audit with initiator :=
      { s.audit.initiator with disturbed := s.audit.initiator.disturbed || s.inAuditSpan line } } }

/-- A forwarding disposition (R10 to R14): a write performs, and the request joins the through queue. -/
def State.forward (s : State) (r : SpRequest) (u : WriteUse) : State :=
  if r.isWrite then (s.perform (lineOf r.addr)).joinThrough r u else s.joinThrough r u

/-! ### Sorted sets of granules (R124) -/

/-- Adds a granule to a set held in rising order; one already present changes nothing. -/
def insertGranule (g : Nat) : List Nat → List Nat
  | [] => [g]
  | h :: rest => if g < h then g :: h :: rest else if g = h then h :: rest else h :: insertGranule g rest

end Sys2Proof.Machine
end

