-- ==== Sys2Proof/Machine/Flags.lean ====
section
/-! DEFINITION. Event, status and alert flags: putting events, the owed STREAM_STATE events, the POOL_LOW and
minimum-free monitors, the lost flag and ALERT_N. -/

namespace Sys2Proof.Machine

/-- An event is put: appended with the time counter, or discarded with the lost flag set (R160). -/
def State.put (s : State) (c : EventCode) (st : Option StreamId) (detail : BitVec 20) : State :=
  if s.events.entries.length < 32 then
    { s with events := { s.events with
      entries := s.events.entries ++ [{ code := c, stream := st, detail := detail, time := s.events.time }] } }
  else { s with events := { s.events with lost := true } }

/-- The detail of STREAM_STATE: state in bits 3 to 0, cause in bits 7 to 4, reason in bits 11 to 8 (section 12.2). -/
def stateDetail (st : StreamState) (c : Cause) (r : Reason) : BitVec 20 :=
  BitVec.ofNat 20 (st.code + 16 * c.code + 256 * r.code)

/-- A change of a stream's state for a cause: state, cause and reason are set, and its STREAM_STATE event is owed at
the end of the event under way (R49). -/
def State.changeState (s : State) (i : StreamId) (st : StreamState) (c : Cause) (r : Reason) : State :=
  let s' := s.modStream i (fun x => { x with state := st, cause := c, reason := r })
  { s' with owed := s'.owed ++ [{ stream := i, detail := stateDetail st c r }] }

/-- The owed events of one stream put in their order. -/
def putOwed : List OwedEvent → State → State
  | [], s => s
  | o :: rest, s => putOwed rest (s.put .streamState (some o.stream) o.detail)

/-- The STREAM_STATE entries follow the event's other entries, in ascending stream number (R49). -/
def State.flushOwed (s : State) : State :=
  let sorted := allStreams.flatMap (fun i => s.owed.filter (fun o => o.stream == i))
  { putOwed sorted s with owed := [] }

/-- The monitors at an event that lowers the free count (R42, R43). -/
def State.poolFell (s : State) : State :=
  let n := s.freeCount
  let s1 := { s with pool := { s.pool with minFree := min s.pool.minFree n } }
  if s.pool.lowArmed ∧ n < s.global.poolLowThreshold then
    let s2 := s1.put .poolLow none (BitVec.ofNat 20 n)
    { s2 with pool := { s2.pool with lowArmed := false } }
  else s1

/-- A disarmed POOL_LOW monitor is armed once the free count is at the threshold or above (R42). -/
def State.poolRearm (s : State) : State :=
  if s.global.poolLowThreshold ≤ s.freeCount then { s with pool := { s.pool with lowArmed := true } } else s

/-- The monitor tested at an accepted write of the threshold (R42). -/
def State.poolThresholdTest (s : State) : State :=
  if s.pool.lowArmed then
    if s.freeCount < s.global.poolLowThreshold then
      let s2 := s.put .poolLow none (BitVec.ofNat 20 s.freeCount)
      { s2 with pool := { s2.pool with lowArmed := false } }
    else s
  else s.poolRearm

/-- ALERT_N is driven low (R162, R165). -/
def State.alertLow (s : State) : Bool :=
  !s.resetAsserted && s.global.alertEnable && !s.events.entries.isEmpty

/-- The link enable indication (R67): 1 in every link state except OFF. -/
def State.linkEnabled (s : State) : Bool := s.link.state != .off

end Sys2Proof.Machine
end

