-- ==== Sys2Proof/Machine/Jobs.lean ====
section
/-! DEFINITION. The ends of the two audit jobs (R144, R147, R148), which other blocks' events cause. -/

namespace Sys2Proof.Machine

/-- An outstanding read of an ended job is not cancelled (R141, R147). -/
def ReadOut.orphaned : ReadOut → ReadOut
  | .none => .none
  | .current => .ended
  | .ended => .ended

/-- The detail of AUDIT_DONE: outcome in bits 3 to 0, reason in bits 11 to 8 (section 12.2). -/
def auditDetail (o : AuditOutcome) (r : Reason) : BitVec 20 := BitVec.ofNat 20 (o.code + 256 * r.code)

/-- The job's local digest: the complemented running CRC once READING has completed (R142), absent before. -/
def Initiator.digest? (j : Initiator) : Option Word32 :=
  if j.state = .waiting then some (~~~j.crc) else none

/-- The initiator job ends (R144). -/
def State.endJob (s : State) (o : AuditOutcome) (r : Reason) (mine theirs : Option Word32) : State :=
  let j := s.audit.initiator
  let s1 := { s with audit := { s.audit with
    initiator := { j with state := .idle, timer := none, dgqDue := false, readOut := j.readOut.orphaned }
    result := { outcome := o, reason := r, tag := j.tag, stream := j.stream, localDigest := mine,
                partnerDigest := theirs } } }
  s1.put .auditDone (some j.stream) (auditDetail o r)

/-- A running initiator job of a stream that leaves ACTIVE ends ABORTED, reason STREAM (R144). -/
def State.abortAudit (s : State) (i : StreamId) : State :=
  if s.audit.initiator.state ≠ .idle ∧ s.audit.initiator.stream = i then
    s.endJob .aborted .stream s.audit.initiator.digest? none
  else s

/-- A class-4 request is made: one already standing is kept (R82, R148). -/
def State.request4 (s : State) (q : AuditReq) : State :=
  if s.link.class4.contains q then s else { s with link := { s.link with class4 := s.link.class4 ++ [q] } }

/-- The responder job ends with an answer in the result slot (R147, R148). -/
def State.endResponder (s : State) (st : DgrStatus) (r : Reason) (digest : Word32) : State :=
  let j := s.audit.responder
  let s1 := { s with audit := { s.audit with
    responder := { j with state := .idle, timer := none, readOut := j.readOut.orphaned }
    resultSlot := some { stream := j.stream, target := j.origin, tag := j.tag, status := st, reason := r,
                         digest := digest } } }
  s1.request4 .dgrResult

/-- A responder job of a stream that leaves BOUND or is rebound ends REFUSED, reason NOT_BOUND (R147). -/
def State.refuseResponder (s : State) (i : StreamId) : State :=
  if s.audit.responder.state ≠ .idle ∧ s.audit.responder.stream = i then
    s.endResponder .refused .notBound 0#32
  else s

/-- The responder's range holds a line address (R146, R147). -/
def State.inResponderRange (s : State) (line : Addr) : Bool :=
  let j := s.audit.responder
  let base := (s.stream j.stream).cfg.extentBase.toNat
  decide (base + 64 * j.firstLine ≤ line.toNat) && decide (line.toNat < base + 64 * (j.firstLine + j.lineCount))

end Sys2Proof.Machine
end

