-- ==== Sys2Proof/Machine/Pool.lean ====
section
/-! DEFINITION. Dirty marking (R125), and the Record Pool: merging, creating, completing, freeing and flushing
records (chapter 2). -/

namespace Sys2Proof.Machine

/-! ### Marking (R125) -/

/-- A granule's index is added to a stream's dirty map. -/
def Stream.markDirty (st : Stream) (g : Nat) : Stream := { st with dirty := insertGranule g st.dirty }

/-- A marking: made in OPENING, RESYNC, DEGRADED and ACTIVE; in ACTIVE the stream moves to RESYNC, cause DIRTY, and a
running audit of it ends (R54, R125, R144). -/
def State.mark (s : State) (i : StreamId) (g : Nat) : State :=
  match (s.stream i).state with
  | .opening | .resync | .degraded => s.modStream i (·.markDirty g)
  | .active => ((s.modStream i (·.markDirty g)).abortAudit i).changeState i .resync .dirty .none
  | .off | .closing | .listen | .bound => s

/-- The marking of a line's granule, divided out by the geometry that stands at the marking: where the extent was
rewritten in OFF with the line's record still in the list, no rule says which geometry counts (log 41). -/
def State.markLine (s : State) (i : StreamId) (line : LineIndex) : State :=
  s.mark i ((s.stream i).cfg.granuleOf line)

/-! ### Merging (R27, R28) -/

/-- A record that a write of the line may merge into, were it the youngest. -/
def Record.mergeable (r : Record) (line : LineIndex) : Bool :=
  (r.state != .sent) && (r.kind != .void) && (r.line == line) && !r.discard && decide (r.pendingWrites < 16)

/-- The merge target: the youngest record, if the conditions of R27 hold. -/
def Stream.mergeTarget (st : Stream) (line : LineIndex) : Option Record :=
  match st.youngest? with
  | some r => if r.mergeable line then some r else none
  | none => none

/-- A merge into a record (R28). -/
def Record.merged (r : Record) (p : Payload) : Record :=
  { r with payload := r.payload.merge p, pendingWrites := r.pendingWrites + 1, state := .captured }

/-- One change made to the record that holds a slot. -/
def Stream.modRecord (st : Stream) (slot : Nat) (f : Record → Record) : Stream :=
  { st with sendList := st.sendList.map (fun r => if r.slot = slot then f r else r) }

/-! ### Creating (R22, R25, R26, R33, R34) -/

def Record.noDeadline (r : Record) : Record := { r with deadline := none }

/-- A record is appended: it takes next seq, the deadline before it is removed, and an absent cursor takes it (R22,
R34, R84). -/
def Stream.append (st : Stream) (r : Record) : Stream :=
  { st with
    sendList := st.sendList.map Record.noDeadline ++ [r]
    nextSeq := st.nextSeq + 1
    cursor := match st.cursor with
      | some c => some c
      | none => some r.seq }

/-- A record of a stream as created in a slot. -/
def Stream.newRecord (st : Stream) (i : StreamId) (slot : Nat) (k : RecordKind) (line : LineIndex) (p : Payload)
    (rs : RecordState) (n : Nat) (d : Timer) : Record :=
  { slot := slot, stream := i, session := st.session, seq := st.nextSeq, kind := k, line := line, payload := p,
    state := rs, pendingWrites := n, discard := false, deadline := d }

/-- A slot leaves the free list and a record is appended in it; the monitors see the lower free count (R21, R42,
R43). -/
def State.create (s : State) (i : StreamId) (slot : Nat) (rest : List Nat) (r : Record) : State :=
  State.poolFell ({ s with pool := { s.pool with freeList := rest } }.modStream i (·.append { r with slot := slot }))

/-- The combine deadline of a new DATA record (R33). -/
def State.combineDeadline (s : State) (i : StreamId) : Timer :=
  if (s.stream i).cfg.combineHold = 0 then none else s.startTimer (s.stream i).cfg.combineHold

/-- The pool's answer to an offered write (section 2.3); merged and recorded name the slot the write is bound to. -/
inductive OfferAnswer where
  | merged (slot : Nat)
  | recorded (slot : Nat)
  | refused
  deriving DecidableEq, Repr

/-- A write is offered (R25): merged, or recorded in a new DATA record where a slot is allowed, or refused. -/
def State.offer (s : State) (i : StreamId) (line : LineIndex) (p : Payload) : OfferAnswer × State :=
  match (s.stream i).mergeTarget line with
  | some r => (.merged r.slot, s.modStream i (·.modRecord r.slot (·.merged p)))
  | none =>
    if s.slotAllowed i then
      match s.pool.freeList with
      | slot :: rest =>
        (.recorded slot,
          s.create i slot rest ((s.stream i).newRecord i slot .data line p .captured 1 (s.combineDeadline i)))
      | [] => (.refused, s)
    else (.refused, s)

/-- A completed copy read is offered (R26): a READY COPY record where a slot is allowed. -/
def State.offerCopy (s : State) (i : StreamId) (line : LineIndex) (p : Payload) : Option State :=
  if s.slotAllowed i then
    match s.pool.freeList with
    | slot :: rest => some (s.create i slot rest ((s.stream i).newRecord i slot .copy line p .ready 0 none))
    | [] => none
  else none

/-! ### Freeing (R21, R40, R42) -/

/-- Slots return to the free list as one freeing. -/
def State.freeSlots (s : State) (slots : List Nat) : State :=
  if slots = [] then s
  else State.poolRearm { s with pool := { s.pool with freeList := s.pool.freeList ++ slots } }

/-- A stream's CLOSING is drained once its usage is 0: the retry count is 0 and CLOSE becomes due (R59). -/
def State.drained (s : State) (i : StreamId) : State :=
  if (s.stream i).state = .closing ∧ (s.stream i).usage = 0 then
    s.modStream i (fun st => { st with retryCount := 0, handshakeDue := true })
  else s

/-! ### Closing up (R22, R38) -/

/-- Seqs that follow one another from q on. -/
def renumber : Seq → List Record → List Record
  | _, [] => []
  | q, r :: rest => { r with seq := q } :: renumber (q + 1) rest

/-- Remaining flagged records closed up: the oldest keeps its seq and each later one takes the next (R38). -/
def closeUp : List Record → List Record
  | [] => []
  | r :: rest => renumber r.seq (r :: rest)

/-! ### Local completion (R30, R31, R32) -/

/-- One pending local write fewer; the last one makes a CAPTURED record READY (R23). -/
def Record.completed (r : Record) : Record := Record.settled { r with pendingWrites := r.pendingWrites - 1 }

/-- A record made VOID: its mask is cleared and its data dropped (R31). -/
def Record.voided (r : Record) : Record := { r with kind := .void, payload := [] }

/-- The MEM_ERROR event of a stream's line (R156). -/
def State.memError (s : State) (i : StreamId) (line : LineIndex) : State := s.put .memError (some i) line

/-- A flagged record whose last pending write has completed is freed (R32). The records that remain are closed up, as a
send list carries consecutive seqs (R22, log 40). -/
def State.freeFlagged (s : State) (i : StreamId) (slot : Nat) : State :=
  match (s.stream i).sendList.find? (fun r => r.slot == slot && r.discard && r.pendingWrites == 0) with
  | none => s
  | some _ =>
    let left := fun st : Stream => closeUp (st.sendList.filter (fun r => r.slot != slot))
    ((s.modStream i (fun st => { st with sendList := left st })).freeSlots [slot]).drained i

/-- The completion of a write bound to a record's slot, with either status. The granule that an ERROR on a flagged
record marks is not held to the range of R124 where the extent has shrunk since (log 41). -/
def State.localComplete (s : State) (i : StreamId) (slot : Nat) (st : Status) : State :=
  match (s.stream i).sendList.find? (fun r => r.slot == slot) with
  | none => s
  | some r =>
    if r.discard then
      let s1 := s.modStream i (·.modRecord slot (fun r => { r with pendingWrites := r.pendingWrites - 1 }))
      match st with
      | .okay => s1.freeFlagged i slot
      | .error => ((s1.memError i r.line).markLine i r.line).freeFlagged i slot
    else
      match st with
      | .okay => s.modStream i (·.modRecord slot Record.completed)
      | .error =>
        ((s.modStream i (·.modRecord slot (fun r => r.voided.completed))).markLine i r.line).memError i r.line

/-! ### Flushing (R38, R39) -/

/-- The CAPTURED records of a flushed list: flagged, without deadline, closed up. -/
def flushedList (l : List Record) : List Record :=
  closeUp ((l.filter Record.captured).map (fun r => { r with discard := true, deadline := none }))

/-- The flush of a stream's send list: records that are not CAPTURED are freed, CAPTURED ones stay flagged. -/
def State.flush (s : State) (i : StreamId) : State :=
  let l := (s.stream i).sendList
  (s.modStream i (fun st => { st with sendList := flushedList st.sendList })).freeSlots
    ((l.filter (fun r => !r.captured)).map Record.slot)

/-- The granules of a stream's records marked dirty, one after another (R38, R125). -/
def State.markRecords (s : State) (i : StreamId) : List Record → State
  | [] => s
  | r :: rest => (s.markLine i r.line).markRecords i rest

/-- A flush with dirty marking (R38). -/
def State.flushMarking (s : State) (i : StreamId) : State := (s.markRecords i (s.stream i).sendList).flush i

end Sys2Proof.Machine
end

