-- ==== Sys2Proof/Machine/Gate.lean ====
section
/-! DEFINITION. The Gate Unit: gate marks, hold slots, release, and answers without performing (chapter 7). -/

namespace Sys2Proof.Machine

/-- The gate mark fixed at classification: the youngest record that does not carry the discard flag (R113). -/
def Stream.gateMark (st : Stream) : Option Seq :=
  ((st.sendList.filter (fun r => !r.discard)).getLast?).map Record.seq

/-- Acked seq is at or after the mark, or there is no mark. -/
def Stream.markReached (st : Stream) (m : Option Seq) : Bool :=
  match m with
  | none => true
  | some q => seqAtOrAfter st.ackedSeq q

/-- The four hold slots built slot by slot. -/
def holdTable (f : Fin 4 → Option HeldWrite) : Vector (Option HeldWrite) 4 := #v[f 0, f 1, f 2, f 3]

/-- The taking order of the write in a slot. -/
def State.holdOrder (s : State) (k : Fin 4) : Nat :=
  match s.hold k with
  | some h => h.order
  | none => 0

/-- A slot placed in a list of slots by taking order. -/
def State.insertSlot (s : State) (k : Fin 4) : List (Fin 4) → List (Fin 4)
  | [] => [k]
  | j :: rest => if s.holdOrder k < s.holdOrder j then k :: j :: rest else j :: s.insertSlot k rest

/-- The slot holds a write of the stream. -/
def State.holdsStream (s : State) (i : StreamId) (k : Fin 4) : Bool :=
  match s.hold k with
  | some h => h.stream == i
  | none => false

/-- The occupied slots in taking order (Table 7-2). -/
def State.slotsInOrder (s : State) : List (Fin 4) :=
  (allSlots.filter (fun k => (s.hold k).isSome)).foldl (fun l k => s.insertSlot k l) []

/-- The slots that hold writes of a stream, in taking order. -/
def State.heldSlots (s : State) (i : StreamId) : List (Fin 4) := s.slotsInOrder.filter (s.holdsStream i)

/-- The lowest-numbered empty slot (R115). -/
def State.freeHold (s : State) : Option (Fin 4) := allSlots.find? (fun k => (s.hold k).isNone)

def State.heldCount (s : State) : Nat := (allSlots.filter (fun k => (s.hold k).isSome)).length

/-- A slot empties: its line leaves the held-line set, and the ranks behind it close up. -/
def State.emptyHold (s : State) (k : Fin 4) : State :=
  match s.hold k with
  | none => s
  | some h =>
    { s with holds := holdTable (fun j =>
        if j = k then none
        else (s.hold j).map (fun w => if h.order < w.order then { w with order := w.order - 1 } else w)) }

/-- The held write as the request it was. -/
def HeldWrite.request (h : HeldWrite) : SpRequest := { tag := h.tag, addr := h.addr, op := .write h.lanes }

/-- A held write is answered ERROR and not performed; its slot empties (R120, R121, R122). -/
def State.answerHold (s : State) (k : Fin 4) : State :=
  match s.hold k with
  | none => s
  | some h => (s.emptyHold k).respond h.tag .error []

/-- Slots answered one after another. -/
def State.answerHolds (s : State) : List (Fin 4) → State
  | [] => s
  | k :: rest => (s.answerHold k).answerHolds rest

/-- Every held write of a stream is answered, in taking order (R121). -/
def State.answerStream (s : State) (i : StreamId) : State := s.answerHolds (s.heldSlots i)

/-- A head taken into a hold slot (R115). -/
def State.takeHold (s : State) (k : Fin 4) (i : StreamId) (t : SpTag) (a : Addr) (lanes : List Lane) : State :=
  let st := s.stream i
  let h : HeldWrite :=
    { tag := t, addr := a, lanes := lanes, stream := i, session := st.session, mark := st.gateMark,
      deadline := s.expiryIn s.global.holdTimeout, order := s.heldCount + 1 }
  (s.setHold k (some h)).modStream i (fun x => { x with sendList := x.sendList.map Record.noDeadline })

/-- The release condition (R117). -/
def State.releasable (s : State) (h : HeldWrite) : Bool :=
  ((s.stream h.stream).state == .active) && ((s.stream h.stream).session == h.session) &&
    (s.stream h.stream).markReached h.mark

/-- A held write is released (R118): the slot empties, the write is offered, and it is performed. -/
def State.release (s : State) (k : Fin 4) : State :=
  match s.hold k with
  | none => s
  | some h =>
    let line := (s.stream h.stream).cfg.lineIndex h.addr
    match (s.emptyHold k).offer h.stream line (lanesPayload (bytePos h.addr) h.lanes) with
    | (.merged slot, s2) => s2.forward h.request (.bound h.stream slot)
    | (.recorded slot, s2) => s2.forward h.request (.bound h.stream slot)
    | (.refused, s2) => (s2.markLine h.stream line).forward h.request (.tracked h.stream line)

/-- Held writes tested one after another, each against the state the earlier releases left (R119). -/
def State.testHolds (s : State) : List (Fin 4) → State
  | [] => s
  | k :: rest =>
    match s.hold k with
    | some h => if s.releasable h then (s.release k).testHolds rest else s.testHolds rest
    | none => s.testHolds rest

/-- The release test of a stream's held writes (R117). -/
def State.testReleases (s : State) (i : StreamId) : State := s.testHolds (s.heldSlots i)

/-- At entry to ACTIVE the marks of the stream's held writes are raised to its youngest record (R117). -/
def State.raiseMarks (s : State) (i : StreamId) : State :=
  match (s.stream i).youngest? with
  | none => s
  | some r =>
    { s with holds := holdTable (fun j =>
        (s.hold j).map (fun w => if w.stream = i then { w with mark := some r.seq } else w)) }

end Sys2Proof.Machine
end

