-- ==== Sys2Proof/Machine/StreamOps.lean ====
section
/-! DEFINITION. The Stream Controller's moves: entries to OPENING, DEGRADED, OFF, ACTIVE, LISTEN and BOUND, with
their entry actions (chapter 3, R98, R110, R136). -/

namespace Sys2Proof.Machine

/-- The stale flag set on every Apply Queue entry of a stream (R110). -/
def State.staleEntries (s : State) (i : StreamId) : State :=
  { s with apply := { s.apply with
    queue := s.apply.queue.map (fun e => if e.stream = i then { e with stale := true } else e) } }

/-- The receive fields set at entry to LISTEN or OFF (R98). -/
def Stream.clearReceive (st : Stream) : Stream :=
  { st with unacked := 0, ackCount := 0, ackDelayTimer := none, nakOutstanding := false }

/-- The Send Engine's cursor becomes absent and its timer is stopped (R83). -/
def Stream.clearSend (st : Stream) : Stream := { st with cursor := none, retransmitTimer := none }

/-- The handshake timer is stopped and an untransmitted OPEN or CLOSE is withdrawn (R52). -/
def Stream.clearHandshake (st : Stream) : Stream := { st with handshakeTimer := none, handshakeDue := false }

/-- The Resync Engine, WAITING or REQUESTED for a stream that leaves RESYNC, returns to IDLE (R136). -/
def State.engineLeave (s : State) (i : StreamId) : State :=
  match s.engine.state with
  | .waiting j => if j = i then { s with engine := { s.engine with state := .idle } } else s
  | .requested j _ => if j = i then { s with engine := { s.engine with state := .idle } } else s
  | .idle | .reading _ => s

/-- The copy position dropped with its granule marked dirty again (R56). -/
def State.dropCopyMarked (s : State) (i : StreamId) : State :=
  match (s.stream i).copyPos with
  | none => s
  | some p => (s.modStream i (fun st => { st with copyPos := none })).mark i p.granule

/-- Entry to DEGRADED with its entry actions (R55, R56). -/
def State.toDegraded (s : State) (i : StreamId) (c : Cause) (r : Reason) : State :=
  let s1 := (s.abortAudit i).changeState i .degraded c r
  let s2 := (s1.flushMarking i).dropCopyMarked i
  let s3 := s2.modStream i (fun st => { st.clearSend.clearHandshake with retryCount := 0 })
  (s3.answerStream i).engineLeave i

/-- Entry to OPENING (R51, R57): a new session from seq 0, and OPEN becomes due. -/
def State.toOpening (s : State) (i : StreamId) (c : Cause) : State :=
  let s1 := s.modStream i (fun st =>
    { st.clearSend with
      session := st.session + 1, nextSeq := 0#16, ackedSeq := 65535#16, sentSeq := 65535#16, retryCount := 0,
      handshakeDue := true, handshakeTimer := none, copyPos := none })
  s1.changeState i .opening c .none

/-- A stream in CLOSING goes to OFF (R59): a flush without marking, the send cursor absent, the timers stopped. -/
def State.closingToOff (s : State) (i : StreamId) (c : Cause) (r : Reason) : State :=
  ((s.flush i).modStream i (fun st => st.clearSend.clearHandshake)).changeState i .off c r

/-- CLOSE accepted: entry to CLOSING (R58), drained at once where the usage is 0 (R59). -/
def State.toClosing (s : State) (i : StreamId) : State :=
  let s1 := (s.abortAudit i).modStream i (fun st =>
    { st with copyPos := none, dirty := [], closeSent := false, handshakeDue := false, handshakeTimer := none })
  let s2 := (s1.changeState i .closing .command .none).answerStream i
  (s2.engineLeave i).drained i

/-- RESYNC → ACTIVE, cause CLEAN, with the marks of the held writes raised and tested (R54, R117). -/
def State.toActive (s : State) (i : StreamId) : State :=
  ((s.changeState i .active .clean .none).raiseMarks i).testReleases i

/-- Requests of a stream's own OPEN or CLOSE frames (R48). -/
def HandshakeReq.ownFrameOf (q : HandshakeReq) (i : StreamId) : Bool :=
  match q with
  | .openDue j => j == i
  | .closeDue j => j == i
  | .resetClose j _ => j == i
  | .opened _ _ _ | .refuse _ _ _ _ | .closed _ _ _ => false

/-- A class-3 request is made (R82). -/
def State.request3 (s : State) (q : HandshakeReq) : State :=
  { s with link := { s.link with class3 := s.link.class3 ++ [q] } }

/-- RESET_STREAM on a SEND stream not in OFF (R60). -/
def State.resetSend (s : State) (i : StreamId) : State :=
  let ses := (s.stream i).session
  let s1 := (s.abortAudit i).flush i
  let s2 := s1.modStream i (fun st =>
    { st.clearSend.clearHandshake with dirty := [], copyPos := none, retryCount := 0 })
  let s3 := ((s2.changeState i .off .command .none).answerStream i).engineLeave i
  let s4 := { s3 with link := { s3.link with class3 := s3.link.class3.filter (fun q => !q.ownFrameOf i) } }
  if s4.link.state = .up then s4.request3 (.resetClose i ses) else s4

/-- A RECEIVE stream enters LISTEN or OFF: its entries are stale, its receive fields are set, and a responder job of
it ends REFUSED (R63, R64, R98, R110). -/
def State.leaveBound (s : State) (i : StreamId) (st : StreamState) (c : Cause) (r : Reason) : State :=
  (((s.staleEntries i).modStream i Stream.clearReceive).refuseResponder i).changeState i st c r

/-- A RECEIVE stream is bound to a session (R62, R98, R110). -/
def State.bind (s : State) (i : StreamId) (ses : Session) : State :=
  let s1 := (s.staleEntries i).modStream i (fun st =>
    { st.clearReceive with session := ses, acceptSeq := 0#16, appliedSeq := 65535#16 })
  (s1.refuseResponder i).changeState i .bound .peerOpen .none

/-- The move of one stream at a link DOWN event (R65). -/
def State.streamDown (s : State) (i : StreamId) : State :=
  match (s.stream i).state with
  | .opening | .resync | .active => s.toDegraded i .linkDown .none
  | .closing => s.closingToOff i .linkDown .none
  | .bound => s.leaveBound i .listen .linkDown .none
  | .off | .degraded | .listen => s

/-- A change of state made stream by stream, in the order of a list. -/
def State.eachStream (s : State) (f : State → StreamId → State) : List StreamId → State
  | [] => s
  | i :: rest => (f s i).eachStream f rest

/-- The link DOWN event acts on every stream (R65). -/
def State.streamsDown (s : State) : State := s.eachStream State.streamDown allStreams

/-- Auto-reopen of one stream at link UP (R57). -/
def State.autoReopen (s : State) (i : StreamId) : State :=
  let st := s.stream i
  if st.cfg.direction = .send ∧ st.state = .degraded ∧ st.cfg.autoReopen = true ∧ st.cause ≠ .peerRefused then
    s.toOpening i .autoReopen
  else s

/-- The retry count reaches the retry limit (R93). -/
def State.retryExhausted (s : State) (i : StreamId) : State :=
  match (s.stream i).state with
  | .resync | .active => s.toDegraded i .retryExhausted .none
  | .closing => s.closingToOff i .retryExhausted .none
  | _ => s

end Sys2Proof.Machine
end

