-- ==== Sys2Proof/Machine/LinkOps.lean ====
section
/-! DEFINITION. The Partner Link Controller: leaving UP, training, retrain, reaching UP, link DOWN, credits, and the
acceptance of arriving frames (chapter 4). -/

namespace Sys2Proof.Machine

/-- Table 4-6. -/
inductive RetrainCause where
  | badCrc | frameGap | unknownKind | creditViolation | badCreditReturn | silence | partnerRetrain | command
  deriving DecidableEq, Repr

/-- The detail of LINK_RETRAIN: the causes of Table 4-6 from 1, in table order (section 12.2). -/
def RetrainCause.code : RetrainCause → Nat
  | .badCrc => 1 | .frameGap => 2 | .unknownKind => 3 | .creditViolation => 4 | .badCreditReturn => 5
  | .silence => 6 | .partnerRetrain => 7 | .command => 8

/-- The detail of the PROTOCOL_ERROR that precedes LINK_RETRAIN, for the causes of Table 4-6 that have one. -/
def RetrainCause.protocolError : RetrainCause → Option Nat
  | .unknownKind => some 1
  | .creditViolation => some 2
  | .badCreditReturn => some 3
  | .badCrc | .frameGap | .silence | .partnerRetrain | .command => none

/-- What a stream loses when the link leaves UP: its handshake timer and request (R52), its retransmit timer (R94),
its NAK slot, ACK count and NAK-outstanding (R111). -/
def Stream.linkLeftUp (st : Stream) : Stream :=
  { st.clearHandshake with retransmitTimer := none, nakSlot := none, ackCount := 0, nakOutstanding := false }

/-- Every request waiting at the link transmit arbiter is withdrawn (R78, R79). -/
def Link.withdrawAll (l : Link) : Link := { l with helloRequest := false, class2 := [], class3 := [], class4 := [] }

/-- The link leaves UP (R78, R79, R94, R111). -/
def State.leaveUp (s : State) : State :=
  let s1 := s.mapStreams (fun _ st => st.linkLeftUp)
  { s1 with
    link := { s1.link.withdrawAll with keepaliveTimer := none, silenceTimer := none }
    apply := { s1.apply with pendingCredits := 0 } }

/-- Entry to TRAINING (R69). -/
def State.enterTraining (s : State) : State :=
  { s with
    link := { s.link with
      state := .training, heard := false, heardSent := false, confirmed := false, lastAdvert := 0, credits := 0,
      txNumber := 0#8, rxNumber := 0#8, keepaliveTimer := none, silenceTimer := none, downTimer := none,
      trainingTimer := s.startTimer (s.global.trainingTimeout * 100), helloRequest := true,
      helloTimer := s.startTimer 10 }
    apply := { s.apply with pendingCredits := 0 } }

/-- A PROTOCOL_ERROR event where the retrain cause has one (R78). -/
def State.putProtocolError (s : State) (c : RetrainCause) : State :=
  match c.protocolError with
  | some d => s.put .protocolError none (BitVec.ofNat 20 d)
  | none => s

/-- A retrain (R78). -/
def State.retrain (s : State) (c : RetrainCause) : State :=
  let s1 := (s.putProtocolError c).put .linkRetrain none (BitVec.ofNat 20 c.code)
  s1.leaveUp.enterTraining

def State.startSilence (s : State) : State :=
  { s with link := { s.link with silenceTimer := s.startTimer (s.global.silence * 10) } }

def State.startKeepalive (s : State) : State :=
  { s with link := { s.link with keepaliveTimer := s.startTimer (s.global.keepalive * 10) } }

def State.requestHello (s : State) : State := { s with link := { s.link with helloRequest := true } }

/-- A stream at the event at which the link reaches UP: due handshake frames (R52, R65), the go-back of R95, and the
ACK owed of R111. -/
def Stream.linkReachedUp (st : Stream) : Stream :=
  let due := st.cfg.direction == .send && (st.state == .opening || (st.state == .closing && st.usage == 0))
  let back := st.cfg.direction == .send && (st.state == .resync || st.state == .active || st.state == .closing) &&
    st.sendList.any Record.isSent
  let owed := st.state == .bound && decide (0 < st.unacked) && st.ackCount == 0
  { st with
    handshakeDue := st.handshakeDue || due
    cursor := if back then st.sendList.head?.map Record.seq else st.cursor
    ackCount := if owed then 1 else st.ackCount }

/-- The actions at reaching UP that follow LINK_UP: the streams, the cursors, the owed ACKs, auto-reopen (R65, R95,
R111). -/
def State.streamsUp (s : State) : State :=
  (s.mapStreams (fun _ st => st.linkReachedUp)).eachStream State.autoReopen allStreams

/-- Reaching UP (R70), by a HELLO of sender state TRAINING (first = none) or by the partner's UP HELLO, whose frame
number is given. -/
def State.reachUp (s : State) (first : Option Byte) : State :=
  let l := s.link
  let s1 := { s with link := { l with
    state := .up, trainingTimer := none, helloTimer := none, txNumber := 0#8, credits := l.lastAdvert,
    rxNumber := match first with
      | none => 0#8
      | some n => n + 1
    confirmed := first.isSome } }
  ((s1.startSilence.startKeepalive.requestHello).put .linkUp none (BitVec.ofNat 20 l.lastAdvert)).streamsUp

/-- A credit return accepted where the counter plus the return is at most last advert; the frame then goes on to its
owner. Otherwise the link retrains, cause BAD_CREDIT_RETURN (R81). -/
def State.creditReturn (s : State) (n : Byte) (owner : State → State) : State :=
  if s.link.credits + n.toNat ≤ s.link.lastAdvert then
    owner { s with link := { s.link with credits := s.link.credits + n.toNat } }
  else s.retrain .badCreditReturn

/-- A valid HELLO handled in TRAINING (R70). -/
def State.trainingHello (s : State) (f : HelloFrame) : State :=
  let s1 := { s with link := { s.link with
    partnerId := f.identity, heard := true,
    lastAdvert := if f.senderUp then s.link.lastAdvert else f.count.toNat } }
  if f.heard ∧ s.link.heardSent then
    if f.senderUp then (s1.reachUp (some f.number)).creditReturn f.count id else s1.reachUp none
  else s1

/-- The link-side acceptance of a frame in UP (R73): the expected number rises and confirmed is set. -/
def State.acceptFrame (s : State) : State :=
  { s with link := { s.link with rxNumber := s.link.rxNumber + 1, confirmed := true } }

/-- Rows 4 and 5 of Table 4-4 for a frame that passes the frame check: a wrong number retrains, cause FRAME_GAP;
otherwise the frame is accepted and handed on. -/
def State.numberedFrame (s : State) (n : Byte) (owner : State → State) : State :=
  if n = s.startSilence.link.rxNumber then owner s.startSilence.acceptFrame else s.startSilence.retrain .frameGap

/-- A frame other than HELLO that passes the frame check: examined in UP, discarded in TRAINING and DOWN, not
examined in OFF nor during a soft reset (R66, R70, R71, R73, R164). -/
def State.frameArrives (s : State) (n : Byte) (owner : State → State) : State :=
  if s.softReset then s
  else
    match s.link.state with
    | .up => s.numberedFrame n owner
    | .off | .down | .training => s

/-- A HELLO of sender state TRAINING arriving in UP (R72). -/
def State.partnerTraining (s : State) (f : HelloFrame) : State :=
  if s.link.confirmed = false ∧ f.heard then
    { s with link := { s.link with lastAdvert := f.count.toNat, credits := f.count.toNat, partnerId := f.identity,
                                   helloRequest := true } }
  else (s.retrain .partnerRetrain).trainingHello f

/-- R168: the advert of a TRAINING HELLO must be 32 or less. -/
def HelloFrame.valid (f : HelloFrame) : Bool := f.senderUp || decide (f.count.toNat ≤ 32)

/-- A HELLO that passes the frame check arrives (R70, R71, R72, R73, R168). -/
def State.helloArrives (s : State) (f : HelloFrame) : State :=
  if s.softReset then s
  else
    match s.link.state with
    | .off => s
    | .down => if HelloFrame.valid f then s.enterTraining.trainingHello f else s
    | .training => if HelloFrame.valid f then s.trainingHello f else s
    | .up =>
      if f.senderUp then
        s.numberedFrame f.number (fun s1 => s1.creditReturn f.count (fun s2 =>
          { s2 with link := { s2.link with partnerId := f.identity } }))
      else if HelloFrame.valid f then s.startSilence.partnerTraining f
      else s.startSilence

/-- A frame failing the frame check: counted in every state but OFF, and in UP a retrain, cause BAD_CRC (R73, R74,
R166). -/
def State.badFrame (s : State) : State :=
  if s.softReset then s
  else
    let s1 := { s with link := { s.link with frameErrors := min 65535 (s.link.frameErrors + 1) } }
    match s.link.state with
    | .off => s
    | .down | .training => s1
    | .up => s1.retrain .badCrc

/-- A frame of no known kind that passes the frame check (R70, R71, R73, R166). -/
def State.unknownKind (s : State) : State :=
  if s.softReset then s
  else
    match s.link.state with
    | .up => s.startSilence.retrain .unknownKind
    | .off | .down | .training => s

/-- Expiry of the training timer: the link goes DOWN and the streams are acted on (R71, R79). -/
def State.trainingFailed (s : State) : State :=
  let s1 := { s with link := { s.link with
    state := .down, trainingTimer := none, helloTimer := none, helloRequest := false,
    downTimer := s.startTimer (s.global.downRetry * 1000) } }
  (s1.put .linkDown none 1#20).streamsDown

/-- LINK_DISABLE accepted in TRAINING or UP (R79). In TRAINING the NAK slots filled during the training stay filled,
as R111 empties them at the leaving of UP only (log 42). -/
def State.disableLink (s : State) : State :=
  let s1 := if s.link.state = .up then s.leaveUp else s
  let s2 := { s1 with
    link := { s1.link.withdrawAll with
      state := .off, helloTimer := none, trainingTimer := none, downTimer := none, keepaliveTimer := none,
      silenceTimer := none, credits := 0, txNumber := 0#8, rxNumber := 0#8, heard := false, heardSent := false,
      confirmed := false }
    apply := { s1.apply with pendingCredits := 0 } }
  (s2.put .linkDown none 2#20).streamsDown

end Sys2Proof.Machine
end

