-- ==== Sys2Proof/Machine/ApplyOps.lean ====
section
/-! DEFINITION. The Apply Engine: arrival of REC frames, the issue point, completion, retirement, and the ACK and NAK
requests (chapter 6); the responder's entry to READING, which retirement causes (R146). -/

namespace Sys2Proof.Machine

/-! ### Requests for ACK and NAK (R102, R105, R108, R109) -/

/-- A credit becomes pending return, holding at 32, while the link is UP (R105). -/
def State.creditPending (s : State) : State :=
  if s.link.state = .up then
    { s with apply := { s.apply with pendingCredits := min 32 (s.apply.pendingCredits + 1) } }
  else s

/-- A NAK request fills the stream's NAK slot, replacing what it holds (R108). -/
def State.requestNak (s : State) (i : StreamId) (n : NakSlot) : State :=
  s.modStream i (fun st => { st with nakSlot := some n })

/-- An ACK owed for a duplicate, holding at 63 (R102). -/
def Stream.oweAck (st : Stream) : Stream := { st with ackCount := min 63 (st.ackCount + 1) }

/-! ### The responder's entry to READING (R146) -/

/-- An entry of the responder's stream after the mark, in its range, whose write may have changed memory (R146). -/
def State.disturbingEntry (s : State) (e : ApplyEntry) : Bool :=
  (e.stream == s.audit.responder.stream) && seqAfter e.seq s.audit.responder.mark &&
    s.inResponderRange ((s.stream e.stream).cfg.lineAddr e.line.toNat) &&
    (match e.progress with
     | .waiting => false
     | .issued _ => true
     | .done _ => true)

/-- Entry to READING (R146). -/
def State.responderReads (s : State) : State :=
  { s with audit := { s.audit with responder := { s.audit.responder with
    state := .reading, timer := none, nextLine := s.audit.responder.firstLine, crc := crcInit,
    disturbed := s.apply.queue.any s.disturbingEntry } } }

/-- A retirement OKAY gives the responder job the new applied seq (R106, R146). -/
def State.responderApplied (s : State) (i : StreamId) (ses : Session) (q : Seq) : State :=
  let j := s.audit.responder
  if j.state = .armed ∧ j.stream = i ∧ j.session = ses ∧ j.mark = q then s.responderReads else s

/-! ### The issue point (R103) -/

/-- The entry is stale at the issue point: flagged, or its stream not BOUND, or its session another (R103). -/
def State.entryStale (s : State) (e : ApplyEntry) : Bool :=
  e.stale || ((s.stream e.stream).state != .bound) || ((s.stream e.stream).session != e.session)

def ApplyEntry.isWaiting (e : ApplyEntry) : Bool := e.progress == .waiting

def ApplyEntry.isIssued (e : ApplyEntry) : Bool :=
  match e.progress with
  | .issued _ => true
  | .waiting | .done _ => false

def ApplyEntry.isDone (e : ApplyEntry) : Bool :=
  match e.progress with
  | .done _ => true
  | .waiting | .issued _ => false

/-- The number of outstanding apply writes (R103). -/
def State.applyOutstanding (s : State) : Nat := (s.apply.queue.filter ApplyEntry.isIssued).length

/-- The issue point's first two cases over a queue: WAITING entries that are stale become DONE SKIPPED, VOID ones
DONE OKAY, up to the first entry that needs a write (R103). -/
def State.passEntries (s : State) : List ApplyEntry → List ApplyEntry
  | [] => []
  | e :: rest =>
    if e.isWaiting then
      if s.entryStale e then { e with progress := .done .skipped } :: s.passEntries rest
      else if e.kind = .void then { e with progress := .done .okay } :: s.passEntries rest
      else e :: rest
    else e :: s.passEntries rest

def State.passIssuePoint (s : State) : State :=
  { s with apply := { s.apply with queue := s.passEntries s.apply.queue } }

/-- The issue point: the oldest WAITING entry (R103). -/
def State.issuePoint (s : State) : Option ApplyEntry := s.apply.queue.find? ApplyEntry.isWaiting

/-- The Apply Engine's standing request for an internal write: an issue point that is neither stale nor VOID, and
fewer than 4 apply writes outstanding (R103). -/
def State.applyRequest (s : State) : Bool :=
  match s.issuePoint with
  | some e => !s.entryStale e && (e.kind != .void) && decide (s.applyOutstanding < 4)
  | none => false

/-! ### Retirement (R106, R107) -/

/-- An OKAY entry of a BOUND stream in its session, not stale: applied seq advances, and an ACK may be owed
(R106). -/
def State.retireOkay (s : State) (e : ApplyEntry) : State :=
  let st := s.stream e.stream
  let n := min 255 (st.unacked + 1)
  let s1 := s.modStream e.stream (fun st =>
    { st with
      appliedSeq := e.seq
      unacked := n
      ackDelayTimer := if st.unacked = 0 then s.startTimer s.global.ackDelay else st.ackDelayTimer
      ackCount := if s.global.ackBatch ≤ n ∧ st.ackCount = 0 then 1 else st.ackCount })
  s1.responderApplied e.stream e.session e.seq

/-- The APPLY_ERROR event (R107). -/
def State.applyError (s : State) (e : ApplyEntry) : State := s.put .applyError (some e.stream) e.line

/-- An apply refused (R107): NAK REFUSED, reason MEMORY, and the stream moves to LISTEN. -/
def State.refuseApply (s : State) (e : ApplyEntry) : State :=
  ((s.applyError e).requestNak e.stream
    { target := (s.stream e.stream).cfg.peer, session := e.session, body := .refused .memory }).leaveBound
    e.stream .listen .applyRefused .memory

/-- The head entry retired with its outcome (R106). -/
def State.retire (s : State) (e : ApplyEntry) (o : ApplyOutcome) : State :=
  let s1 := ({ s with apply := { s.apply with queue := s.apply.queue.tail } }).creditPending
  if s1.entryStale e then
    match o with
    | .error => s1.applyError e
    | .okay | .skipped => s1
  else
    match o with
    | .okay => s1.retireOkay e
    | .error => s1.refuseApply e
    | .skipped => s1

/-- The Apply Engine's work at the end of an event: the issue point passes what needs no write, and DONE heads retire
in queue order (R103, R106). At each round the entries are marked before the head retires (log 45). -/
def State.applyPass : Nat → State → State
  | 0, s => s.passIssuePoint
  | n + 1, s =>
    let s1 := s.passIssuePoint
    match s1.apply.queue with
    | [] => s1
    | e :: _ =>
      match e.progress with
      | .done o => State.applyPass n (s1.retire e o)
      | .waiting | .issued _ => s1

/-! ### Issue and completion (R103, R104) -/

/-- The lowest-numbered free tag of 16 to 19 (R149). -/
def State.freeApplyTag (s : State) : Option MpTag :=
  [16, 17, 18, 19].find? (fun t => s.mp.outstanding.all (fun m => m.tag != t))

/-- The oldest WAITING entry becomes ISSUED with a tag (R103). -/
def issueFirst (t : MpTag) : List ApplyEntry → List ApplyEntry
  | [] => []
  | e :: rest => if e.isWaiting then { e with progress := .issued t } :: rest else e :: issueFirst t rest

/-- An apply write issue into the responder's range while it is READING disturbs it (R147). -/
def State.applyDisturbs (s : State) (line : Addr) : State :=
  if s.audit.responder.state = .reading ∧ s.inResponderRange line then
    { s with audit := { s.audit with responder := { s.audit.responder with disturbed := true } } }
  else s

/-- The entry whose write carries a tag takes progress DONE (R104). -/
def State.applyDone (s : State) (t : MpTag) (o : ApplyOutcome) : State :=
  { s with apply := { s.apply with
    queue := s.apply.queue.map (fun e => if e.progress = .issued t then { e with progress := .done o } else e) } }

/-! ### Arrival of a REC frame (R100, R101, R102, R167) -/

/-- R167: the payload a frame carries, if its kind and mask are consistent. -/
def RecFrame.consistent (f : RecFrame) : Option RecordKind :=
  match RecordKind.ofCode f.kind.toNat with
  | some .data => if f.mask = 0#64 then none else some .data
  | some .copy => if f.mask = BitVec.allOnes 64 then some .copy else none
  | some .void => if f.mask = 0#64 then some .void else none
  | none => none

/-- The entry a queued REC frame becomes (Table 6-1). -/
def RecFrame.entry (f : RecFrame) (k : RecordKind) : ApplyEntry :=
  { stream := f.target, session := f.session, seq := f.seq, kind := k, line := f.line,
    payload := Payload.ofMask f.mask f.data, progress := .waiting, stale := false }

/-- An in-range frame of the accept seq is queued (R101). -/
def State.queueRec (s : State) (f : RecFrame) (k : RecordKind) : State :=
  let s1 := { s with apply := { s.apply with queue := s.apply.queue ++ [RecFrame.entry f k] } }
  s1.modStream f.target (fun st => { st with acceptSeq := st.acceptSeq + 1, nakOutstanding := false })

/-- An out-of-range frame is refused (R101). -/
def State.refuseRange (s : State) (f : RecFrame) : State :=
  (s.creditPending.requestNak f.target
    { target := f.origin, session := f.session, body := .refused .range }).leaveBound
    f.target .listen .applyRefused .range

/-- A gap: NAK GAP unless one is outstanding (R102). -/
def State.recGap (s : State) (f : RecFrame) : State :=
  let s1 := s.creditPending
  if (s1.stream f.target).nakOutstanding then s1
  else
    (s1.requestNak f.target
      { target := f.origin, session := f.session, body := .gap (s1.stream f.target).acceptSeq }).modStream f.target
      (fun st => { st with nakOutstanding := true })

/-- Rows 2 to 6 of Table 6-4. -/
def State.examineRec (s : State) (f : RecFrame) (k : RecordKind) : State :=
  let st := s.stream f.target
  if st.cfg.direction = .send ∨ st.state ≠ .bound then
    s.creditPending.requestNak f.target { target := f.origin, session := f.session, body := .refused .notBound }
  else if f.session ≠ st.session ∨ f.origin ≠ st.cfg.peer then s.creditPending
  else if f.seq = st.acceptSeq then
    if f.line.toNat < st.cfg.lines then s.queueRec f k else s.refuseRange f
  else if seqBefore f.seq st.acceptSeq then s.creditPending.modStream f.target Stream.oweAck
  else if seqAfter f.seq st.acceptSeq then s.recGap f
  else s.creditPending

/-- An accepted REC frame (Table 6-4, R167). -/
def State.recAccepted (f : RecFrame) (s : State) : State :=
  if 32 ≤ s.apply.queue.length then s.retrain .creditViolation
  else
    match RecFrame.consistent f with
    | none => s.creditPending
    | some k => s.examineRec f k

end Sys2Proof.Machine
end

