-- ==== Sys2Proof/Machine/SendOps.lean ====
section
/-! DEFINITION. The Send Engine: the cursor, candidates, taking, ACK, NAK and the retransmit timer (chapter 5). -/

namespace Sys2Proof.Machine

/-! ### The cursor (R84) -/

/-- The record carries a seq and stands in the order of the list: flagged records stand apart (R84). -/
def Record.atSeq (r : Record) (q : Seq) : Bool := (r.seq == q) && !r.discard

/-- The record at the cursor. -/
def Stream.cursorRecord (st : Stream) : Option Record :=
  match st.cursor with
  | some q => st.sendList.find? (fun r => r.atSeq q)
  | none => none

/-- The seq of the record that follows seq q in a list (R84). -/
def followingSeq (q : Seq) : List Record → Option Seq
  | [] => none
  | r :: rest => if r.atSeq q then rest.head?.map Record.seq else followingSeq q rest

/-- A SEND stream in RESYNC, ACTIVE or CLOSING (R85, R87, R89). -/
def Stream.sends (st : Stream) : Bool :=
  (st.cfg.direction == .send) && (st.state == .resync || st.state == .active || st.state == .closing)

/-- The record may be taken: SENT, or READY with no combine deadline (R85). -/
def Record.takeable (r : Record) : Bool := (r.state == .sent) || (r.state == .ready && r.deadline.isNone)

/-- The record that a class-5 grant for the stream would take, if the stream is a candidate (R85). -/
def Stream.candidate (st : Stream) : Option Record :=
  if st.sends then
    match st.cursorRecord with
    | some r => if r.takeable then some r else none
    | none => none
  else none

/-! ### Taking (R86) -/

/-- The REC frame of a record as it stands at the grant (R86, Table 12-2). -/
def Record.frame (r : Record) (peer : StreamId) (number : Byte) : RecFrame :=
  { number := number, target := peer, origin := r.stream, session := r.session, seq := r.seq,
    kind := BitVec.ofNat 8 r.kind.code, line := r.line, mask := r.payload.mask, data := r.payload.data }

/-- The expiry of an ack timeout started now: the field counts 10 µs (Table 3-1). -/
def State.ackTimer (s : State) (i : StreamId) : Timer := s.startTimer ((s.stream i).cfg.ackTimeout * 10)

/-- The record is the oldest of the send list. -/
def Stream.isOldest (st : Stream) (r : Record) : Bool :=
  match st.sendList.head? with
  | some h => h.slot == r.slot
  | none => false

/-- The taking of a record of a stream: SENT, sent seq, cursor, timer (R86). -/
def Stream.taken (st : Stream) (r : Record) (timer : Timer) : Stream :=
  { st.modRecord r.slot (fun r => { r with state := .sent }) with
    sentSeq := if r.state = .ready then r.seq else st.sentSeq
    cursor := followingSeq r.seq st.sendList
    retransmitTimer := if st.isOldest r then timer else st.retransmitTimer }

/-- A class-5 grant's effects but for the frame itself: one credit, the REC pointer, the taking (R80, R82, R86). -/
def State.takeRecord (s : State) (i : StreamId) (r : Record) : State :=
  let s1 := { s with link := { s.link with credits := s.link.credits - 1, recPointer := i } }
  s1.modStream i (fun st => st.taken r (s.ackTimer i))

/-! ### ACK (R87, R88) -/

/-- The frame of a session is current for its target stream (R87, R89). -/
def Stream.current (st : Stream) (ses : Session) : Bool := st.sends && (st.session == ses)

/-- The cursor after the oldest n records are freed (R88). -/
def Stream.cursorAfterFree (st : Stream) (n : Nat) : Option Seq :=
  match st.cursor with
  | none => none
  | some q =>
    if (st.sendList.take n).any (fun r => r.atSeq q) then (st.sendList.drop n).head?.map Record.seq else some q

/-- The stream after an ACK that makes progress frees its oldest n records (R88). A timer that stayed stopped since the
link reached UP is started (log 50). -/
def Stream.acked (st : Stream) (q : Seq) (n : Nat) (timer : Timer) : Stream :=
  { st with
    sendList := st.sendList.drop n, ackedSeq := q, retryCount := 0, cursor := st.cursorAfterFree n
    retransmitTimer := if (st.sendList.drop n).any Record.isSent then timer else none }

/-- A current ACK that makes progress (R88). -/
def State.ackProgress (s : State) (i : StreamId) (q : Seq) : State :=
  let st := s.stream i
  let n := (q - st.ackedSeq).toNat
  let s1 := (s.modStream i (fun st => st.acked q n (s.ackTimer i))).freeSlots ((st.sendList.take n).map Record.slot)
  (s1.testReleases i).drained i

/-- An accepted ACK, after its credit return (R87). -/
def State.ackAccepted (f : AckFrame) (s : State) : State :=
  let st := s.stream f.target
  if st.current f.session ∧ inSeqRange f.seq st.ackedSeq st.sentSeq then s.ackProgress f.target f.seq else s

/-! ### NAK (R89, R90, R168) -/

/-- The reason of a NAK REFUSED: codes 5, 6 and 7 (R168). -/
def nakReason (value : BitVec 16) : Option Reason :=
  match value.toNat % 256 with
  | 5 => some .notBound
  | 6 => some .range
  | 7 => some .memory
  | _ => none

/-- A current NAK REFUSED (R89). -/
def State.nakRefused (s : State) (i : StreamId) (r : Reason) : State :=
  match (s.stream i).state with
  | .resync | .active => s.toDegraded i .peerRefused r
  | .closing => s.closingToOff i .peerRefused r
  | _ => s

/-- One more round: at the retry limit the stream stops sending (R93), else the go-back to a seq is made with the
timer restarted (R90, R92), also where it stayed stopped since the link reached UP (log 50). -/
def State.goBack (s : State) (i : StreamId) (q : Option Seq) : State :=
  let n := (s.stream i).retryCount + 1
  if (s.stream i).cfg.retryLimit ≤ n then (s.modStream i (fun st => { st with retryCount := n })).retryExhausted i
  else s.modStream i (fun st => { st with retryCount := n, cursor := q, retransmitTimer := s.ackTimer i })

/-- The cursor is at or before e, so not after it (log 46): a round that will send e again is under way (Table 5-2). -/
def Stream.cursorCovers (st : Stream) (e : Seq) : Bool :=
  match st.cursor with
  | none => false
  | some q => !seqAfter q e

/-- A current NAK GAP (Table 5-2). In range it restarts the timer, also where it stayed stopped since the link reached UP
(log 50). -/
def State.nakGap (s : State) (i : StreamId) (e : Seq) : State :=
  let st := s.stream i
  if inSeqRange e st.ackedSeq st.sentSeq then
    if st.cursorCovers e then s.modStream i (fun st => { st with retransmitTimer := s.ackTimer i })
    else s.goBack i (some e)
  else s

/-- An accepted NAK, after its credit return (R89, R168). -/
def State.nakAccepted (f : NakFrame) (s : State) : State :=
  if (s.stream f.target).current f.session then
    if f.kind = 0#8 then s.nakGap f.target f.value
    else if f.kind = 1#8 then
      match nakReason f.value with
      | some r => s.nakRefused f.target r
      | none => s
    else s
  else s

/-- Expiry of the retransmit timer: the go-back to the oldest record (R92). -/
def State.retransmitExpired (s : State) (i : StreamId) : State :=
  s.goBack i ((s.stream i).sendList.head?.map Record.seq)

end Sys2Proof.Machine
end

