-- ==== Sys2Proof/Machine/TransmitOps.lean ====
section
/-! DEFINITION. The link transmit arbiter: the requests that stand at the end of an event, and the grant (R82). -/

namespace Sys2Proof.Machine

/-! ### Standing requests -/

/-- The stream owes an ACK (R109). -/
def State.ackWanted (s : State) (i : StreamId) : Bool := decide (0 < (s.stream i).ackCount)

/-- The stream's NAK slot is filled (R108). -/
def State.nakWanted (s : State) (i : StreamId) : Bool := (s.stream i).nakSlot.isSome

/-- A class-2 request still stands (R108, R109). -/
def State.wants2 (s : State) : AckNakReq → Bool
  | .ack i => s.ackWanted i
  | .nak i => s.nakWanted i

/-- The stream's OPEN is due and the link is UP (R52). -/
def State.openWanted (s : State) (i : StreamId) : Bool :=
  (s.link.state == .up) && ((s.stream i).state == .opening) && (s.stream i).handshakeDue

/-- The stream's CLOSE is due and the link is UP (R52, R59). -/
def State.closeWanted (s : State) (i : StreamId) : Bool :=
  (s.link.state == .up) && ((s.stream i).state == .closing) && (s.stream i).handshakeDue

/-- A class-3 request still stands: answers and the CLOSE of a RESET_STREAM stand until granted or withdrawn by the
link (R48, R52, R60). -/
def State.wants3 (s : State) : HandshakeReq → Bool
  | .openDue i => s.openWanted i
  | .closeDue i => s.closeWanted i
  | .resetClose _ _ | .opened _ _ _ | .refuse _ _ _ _ | .closed _ _ _ => true

/-- A class-4 request has something to send (R142, R148). -/
def State.wants4 (s : State) : AuditReq → Bool
  | .dgq => (s.audit.initiator.state == .waiting) && s.audit.initiator.dgqDue
  | .dgrResult => s.audit.resultSlot.isSome
  | .dgrImmediate => s.audit.immediateSlot.isSome

/-- The stream a class-4 request is for. -/
def State.stream4 (s : State) : AuditReq → Option StreamId
  | .dgq => some s.audit.initiator.stream
  | .dgrResult => s.audit.resultSlot.map DgrAnswer.stream
  | .dgrImmediate => s.audit.immediateSlot.map DgrAnswer.stream

/-- The class-2 requests in ascending stream number, an ACK before a NAK of the same stream (log 34). -/
def all2 : List AckNakReq := allStreams.flatMap (fun i => [AckNakReq.ack i, AckNakReq.nak i])

/-- The due handshake requests in ascending stream number. -/
def all3 : List HandshakeReq := allStreams.flatMap (fun i => [HandshakeReq.openDue i, HandshakeReq.closeDue i])

/-- The class-4 requests of one stream number, in the order a free choice gives (log 19). -/
def order4 (swap : Bool) : List AuditReq :=
  if swap then [.dgrImmediate, .dgrResult, .dgq] else [.dgq, .dgrResult, .dgrImmediate]

/-- The class-4 requests in ascending stream number. -/
def State.all4 (s : State) (swap : Bool) : List AuditReq :=
  allStreams.flatMap (fun i => (order4 swap).filter (fun q => s.stream4 q == some i))

/-- Kept requests in their order, followed by the wanted ones not yet standing. -/
def standing {α : Type} [BEq α] (old all : List α) (wants : α → Bool) : List α :=
  old.filter wants ++ all.filter (fun q => wants q && !old.contains q)

/-- A class-4 request of a stream enters its class at this event. -/
def State.enters4 (s : State) (i : StreamId) (q : AuditReq) : Bool :=
  s.wants4 q && !s.link.class4.contains q && (s.stream4 q == some i)

/-- Two class-4 requests of one stream enter at this event: no rule orders them (log 19). -/
def State.tie4 (s : State) : Bool :=
  (s.link.state == .up) && allStreams.any (fun i => decide (2 ≤ ((order4 false).filter (s.enters4 i)).length))

/-- The requests standing at the end of an event: those still wanted keep their places, and new ones enter their
class in ascending stream number (R52, R82, R108, R109, R142, R148). A class-4 request withdrawn when the link left UP
is made again while the link is UP. The class-2 request of a NAK slot that LINK_DISABLE in TRAINING leaves filled
stands again at the end of that event (log 42). -/
def State.refreshRequests (s : State) : State :=
  let tie := s.tie4
  let swap := tie && Config.freeChoice s.choices
  let new4 := if s.link.state = .up then s.all4 swap else []
  { s with
    link := { s.link with
      class2 := standing s.link.class2 all2 s.wants2
      class3 := standing s.link.class3 all3 s.wants3
      class4 := standing s.link.class4 new4 s.wants4 }
    choices := if tie then s.choices + 1 else s.choices }

/-! ### The frames as granted -/

/-- The code of a NAK frame and its value (Table 12-2). -/
def NakBody.kindCode : NakBody → Byte
  | .gap _ => 0#8
  | .refused _ => 1#8

def NakBody.value : NakBody → BitVec 16
  | .gap e => e
  | .refused r => BitVec.ofNat 16 r.code

/-- The credit return of a frame granted now: the whole pending count (R81, R105). -/
def State.creditByte (s : State) : Byte := BitVec.ofNat 8 s.apply.pendingCredits

/-- The pending credits fall by the amount returned (R81, R105). -/
def State.creditsReturned (s : State) : State := { s with apply := { s.apply with pendingCredits := 0 } }

/-- A frame is sent: what the transmitter carries last (log 10). -/
def State.sendFrame (s : State) (f : Frame) : State := { s with out := { s.out with frame := some f } }

/-- A frame granted in UP: the transmit frame number rises and the keepalive timer restarts (R75, R76). -/
def State.sendUp (s : State) (f : Frame) : State :=
  let s1 := s.sendFrame f
  State.startKeepalive { s1 with link := { s1.link with txNumber := s1.link.txNumber + 1 } }

/-- The identity word (Table 12-4). -/
def identityWord : Word32 := 0x06120001#32

/-- The free Apply Queue entries (R97). -/
def State.freeApply (s : State) : Nat := 32 - s.apply.queue.length

/-- A HELLO granted in TRAINING (R69). -/
def State.grantTrainingHello (s : State) : State :=
  let h := s.link.heard && s.apply.queue.isEmpty
  let s1 := s.sendFrame (.hello { number := 0#8, senderUp := false, heard := h, count := BitVec.ofNat 8 s.freeApply,
                                  identity := identityWord })
  { s1 with link := { s1.link with helloRequest := false, heardSent := s1.link.heardSent || h } }

/-- A HELLO granted in UP (R75, R76). -/
def State.grantUpHello (s : State) : State :=
  let s1 := s.sendUp (.hello { number := s.link.txNumber, senderUp := true, heard := true, count := s.creditByte,
                               identity := identityWord })
  { s1.creditsReturned with link := { s1.link with helloRequest := false } }

/-- An ACK granted for a stream (R109). -/
def State.grantAck (s : State) (i : StreamId) : State :=
  let st := s.stream i
  let s1 := s.sendUp (.ack { number := s.link.txNumber, target := st.cfg.peer, origin := i, session := st.session,
                             seq := st.appliedSeq, credit := s.creditByte })
  s1.creditsReturned.modStream i (fun st =>
    { st with ackCount := st.ackCount - 1, unacked := 0, ackDelayTimer := none })

/-- A NAK granted for a stream (R108). -/
def State.grantNak (s : State) (i : StreamId) (n : NakSlot) : State :=
  let s1 := s.sendUp (.nak { number := s.link.txNumber, target := n.target, origin := i, session := n.session,
                             kind := n.body.kindCode, value := n.body.value, credit := s.creditByte })
  s1.creditsReturned.modStream i (fun st => { st with nakSlot := none })

/-- A class-2 grant. -/
def State.grant2 (s : State) (q : AckNakReq) : State :=
  match q with
  | .ack i => s.grantAck i
  | .nak i =>
    match (s.stream i).nakSlot with
    | some n => s.grantNak i n
    | none => s

/-- The handshake frame of a due OPEN or CLOSE is transmitted: its timer starts (R52). -/
def State.startHandshake (s : State) (i : StreamId) : State :=
  s.modStream i (fun st => { st with handshakeDue := false, handshakeTimer := s.ackTimer i })

/-- A class-3 grant (R48, R52, R59, R60). -/
def State.grant3 (s : State) (q : HandshakeReq) : State :=
  let n := s.link.txNumber
  match q with
  | .openDue i =>
    let st := s.stream i
    (s.sendUp (.openStream { number := n, target := st.cfg.peer, origin := i, session := st.session,
                             sizeCode := BitVec.ofNat 8 st.cfg.sizeCode })).startHandshake i
  | .closeDue i =>
    let st := s.stream i
    ((s.sendUp (.close { number := n, target := st.cfg.peer, origin := i,
                         session := st.session })).startHandshake i).modStream i
      (fun st => { st with closeSent := true })
  | .resetClose i ses =>
    s.sendUp (.close { number := n, target := (s.stream i).cfg.peer, origin := i, session := ses })
  | .opened i t ses => s.sendUp (.opened { number := n, target := t, origin := i, session := ses })
  | .refuse i t ses r =>
    s.sendUp (.refuse { number := n, target := t, origin := i, session := ses, reason := BitVec.ofNat 8 r.code })
  | .closed i t ses => s.sendUp (.closed { number := n, target := t, origin := i, session := ses })

/-- The DGR frame of a slot (R148, Table 12-2). -/
def DgrAnswer.frame (a : DgrAnswer) (number : Byte) : DgrFrame :=
  { number := number, target := a.target, origin := a.stream, tag := a.tag, status := BitVec.ofNat 8 a.status.code,
    reason := BitVec.ofNat 8 a.reason.code, digest := a.digest }

/-- The DGQ of the initiator job (R142). -/
def State.dgqFrame (s : State) : DgqFrame :=
  let j := s.audit.initiator
  { number := s.link.txNumber, target := (s.stream j.stream).cfg.peer, origin := j.stream, session := j.session,
    tag := j.tag, firstLine := BitVec.ofNat 20 j.firstLine, lineCount := BitVec.ofNat 21 j.lineCount,
    mark := j.mark }

/-- A class-4 grant (R142, R148). -/
def State.grant4 (s : State) (q : AuditReq) : State :=
  match q with
  | .dgq =>
    let s1 := s.sendUp (.dgq s.dgqFrame)
    { s1 with audit := { s1.audit with initiator := { s1.audit.initiator with dgqDue := false } } }
  | .dgrResult =>
    match s.audit.resultSlot with
    | some a =>
      let s1 := s.sendUp (.dgr (a.frame s.link.txNumber))
      { s1 with audit := { s1.audit with resultSlot := none } }
    | none => s
  | .dgrImmediate =>
    match s.audit.immediateSlot with
    | some a =>
      let s1 := s.sendUp (.dgr (a.frame s.link.txNumber))
      { s1 with audit := { s1.audit with immediateSlot := none } }
    | none => s

/-- The first candidate stream after the REC pointer (R82, R85). -/
def State.nextSender (s : State) : Option StreamId :=
  (cyclicAfter s.link.recPointer).find? (fun i => (s.stream i).candidate.isSome)

/-- A class-5 grant for a stream (R82, R86). -/
def State.grantRec (s : State) (i : StreamId) (r : Record) : State :=
  (s.takeRecord i r).sendUp (.record (r.frame (s.stream i).cfg.peer s.link.txNumber))

/-- A class-5 grant, if a stream is a candidate and a credit is left. -/
def State.grant5 (s : State) : State :=
  if s.link.credits = 0 then s
  else
    match s.nextSender with
    | none => s
    | some i =>
      match (s.stream i).candidate with
      | some r => s.grantRec i r
      | none => s

/-- A grant in UP with confirmed 1: the oldest request of the lowest-numbered class (Table 4-7). -/
def State.grantConfirmed (s : State) : State :=
  match s.link.class2 with
  | q :: rest => { s with link := { s.link with class2 := rest } }.grant2 q
  | [] =>
    match s.link.class3 with
    | q :: rest => { s with link := { s.link with class3 := rest } }.grant3 q
    | [] =>
      match s.link.class4 with
      | q :: rest => { s with link := { s.link with class4 := rest } }.grant4 q
      | [] => s.grant5

/-- One grant of the link transmit arbiter (R82). During a soft reset no frame is granted (R164). -/
def State.transmitGrant (s : State) : State :=
  if s.softReset then s
  else
    match s.link.state with
    | .off | .down => s
    | .training => if s.link.helloRequest then s.grantTrainingHello else s
    | .up =>
      if s.link.helloRequest then s.grantUpHello
      else if s.link.confirmed then s.grantConfirmed
      else s

end Sys2Proof.Machine
end

