-- ==== Sys2Proof/Machine/CopyOps.lean ====
section
/-! DEFINITION. The Resync Engine: service search, slot test, and the copy read's completion (chapter 8). -/

namespace Sys2Proof.Machine

/-- A stream that a search serves: a SEND stream in RESYNC (R128). -/
def Stream.served (st : Stream) : Bool := (st.cfg.direction == .send) && (st.state == .resync)

/-- The start of a granule: the lowest dirty granule becomes the copy position, at line 0 (R129). -/
def Stream.startGranule (st : Stream) : Stream :=
  match st.copyPos, st.dirty with
  | none, g :: rest => { st with copyPos := some { granule := g, line := 0 }, dirty := rest }
  | _, _ => st

/-- The line address of a stream's copy position (section 8.2). -/
def Stream.copyAddr (st : Stream) : Option Addr := st.copyPos.map (fun p => st.cfg.lineAddr (st.cfg.copyLine p))

def State.setEngine (s : State) (e : EngineState) : State := { s with engine := { s.engine with state := e } }

/-- An issue-pending entry has the line of the stream's copy position. -/
def State.copyLinePending (s : State) (i : StreamId) : Bool :=
  match (s.stream i).copyAddr with
  | some a => s.linePending a
  | none => false

/-- The slot test has held: the engine waits out the line's pending writes, or requests the read (R130). -/
def State.proceedCopy (s : State) (i : StreamId) : State :=
  if s.copyLinePending i then s.setEngine (.waiting i) else s.setEngine (.requested i (s.stream i).session)

/-- The service search over a list of streams (R128). -/
def State.searchOver (s : State) : List StreamId → State
  | [] => s
  | i :: rest =>
    if (s.stream i).served then
      let s1 := s.modStream i Stream.startGranule
      if s1.slotAllowed i then s1.proceedCopy i else s1.searchOver rest
    else s.searchOver rest

/-- The service search, made while the engine is IDLE and no soft reset is in progress (R128). -/
def State.serviceSearch (s : State) : State :=
  if s.engine.state = .idle ∧ s.softReset = false then s.searchOver (cyclicAfter s.engine.pointer) else s

/-- The engine in WAITING at the removal of an issue-pending entry: once no entry of the line remains, the slot test is
made again (R130). The search of a failed test follows at the end of the event. -/
def State.engineRetest (s : State) : State :=
  match s.engine.state with
  | .waiting i =>
    if s.softReset ∨ s.copyLinePending i then s
    else if s.slotAllowed i then s.setEngine (.requested i (s.stream i).session)
    else s.setEngine .idle
  | .idle | .requested _ _ | .reading _ => s

/-! ### The copy read's completion (R132 to R135) -/

/-- The position after a line's COPY record: the next line of the granule, or absent after its last (R133). -/
def Stream.advanceCopy (st : Stream) : Stream :=
  match st.copyPos with
  | none => st
  | some p =>
    { st with copyPos := if p.line + 1 < st.cfg.linesPerGranule then some { p with line := p.line + 1 } else none }

/-- A COPY record has been created: the position moves, and a clean stream goes to ACTIVE (R133). -/
def State.copyCreated (s : State) (i : StreamId) : State :=
  let s1 := s.modStream i Stream.advanceCopy
  if (s1.stream i).copyPos = none ∧ (s1.stream i).dirty = [] then s1.toActive i else s1

/-- An error of a current copy read (R134). -/
def State.copyFailed (s : State) (r : CopyRead) : State :=
  let s1 := s.memError r.stream r.line
  let s2 := match (s1.stream r.stream).copyPos with
    | some p => s1.mark r.stream p.granule
    | none => s1
  s2.toDegraded r.stream .copyError .none

/-- The copy read's stream is in RESYNC in the read's session (R132). -/
def State.copyCurrent (s : State) (r : CopyRead) : Bool :=
  ((s.stream r.stream).state == .resync) && ((s.stream r.stream).session == r.session)

/-- The completion of a copy read, after the engine has left READING: orphaned, error, spoiled, or offered (R132,
R133, R134, R135). -/
def State.copyCompleted (s : State) (r : CopyRead) (st : Status) (d : LineBytes) : State :=
  if s.copyCurrent r then
    match st with
    | .error => s.copyFailed r
    | .okay =>
      if r.spoiled then s
      else
        match s.offerCopy r.stream r.line (Payload.ofLine d) with
        | some s1 => s1.copyCreated r.stream
        | none => s
  else
    match st with
    | .error => s.memError r.stream r.line
    | .okay => s

/-- A response of the copy read is delivered: the engine leaves READING; during a soft reset nothing more happens
(R132, R135). -/
def State.copyResponse (s : State) (st : Status) (d : LineBytes) : State :=
  match s.engine.state with
  | .reading r =>
    let s1 := s.setEngine .idle
    if s.softReset then s1 else s1.copyCompleted r st d
  | .idle | .waiting _ | .requested _ _ => s

end Sys2Proof.Machine
end

