-- ==== Sys2Proof/Machine/AuditOps.lean ====
section
/-! DEFINITION. The Audit Unit: the initiator's reads and end of reading, the arrival of DGQ and DGR, the responder's
reads (chapter 9). -/

namespace Sys2Proof.Machine

/-- A full line's bytes taken into a running CRC in ascending address order (R141, R147). -/
def crcLine (c : Word32) (d : LineBytes) : Word32 := crcRun c d.toList

def State.setInitiator (s : State) (j : Initiator) : State := { s with audit := { s.audit with initiator := j } }

def State.setResponder (s : State) (j : Responder) : State := { s with audit := { s.audit with responder := j } }

/-! ### The initiator (R140 to R142, R144) -/

/-- The address of the initiator's next read (R141). -/
def State.initiatorAddr (s : State) : Addr :=
  (s.stream s.audit.initiator.stream).cfg.lineAddr s.audit.initiator.nextLine

/-- The initiator's read request stands: READING, no read outstanding, and no issue-pending entry of the line
(R141). -/
def State.initiatorRequest (s : State) : Bool :=
  (s.audit.initiator.state == .reading) && (s.audit.initiator.readOut == .none) && !s.linePending s.initiatorAddr

/-- AUDIT_START accepted (R140). -/
def State.startAudit (s : State) (i : StreamId) (first count : Nat) : State :=
  let st := s.stream i
  let j := s.audit.initiator
  s.setInitiator { j with
    state := .reading, stream := i, session := st.session, firstLine := first * st.cfg.linesPerGranule,
    lineCount := count * st.cfg.linesPerGranule, nextLine := first * st.cfg.linesPerGranule, crc := crcInit,
    disturbed := false, tag := j.tag + 1, timer := none, dgqDue := false }

/-- The end of READING (R142). -/
def State.readingEnds (s : State) : State :=
  let j := s.audit.initiator
  if j.disturbed then s.endJob .disturbed .localChange none none
  else
    (s.setInitiator { j with
      state := .waiting, mark := (s.stream j.stream).nextSeq - 1,
      timer := s.startTimer (s.global.auditTimeout * 1000), dgqDue := true }).request4 .dgq

/-- An OKAY read of the current job (R141). -/
def State.initiatorLine (s : State) (d : LineBytes) : State :=
  let j := s.audit.initiator
  let s1 := s.setInitiator { j with crc := crcLine j.crc d, nextLine := j.nextLine + 1 }
  if j.nextLine + 1 < j.firstLine + j.lineCount then s1 else s1.readingEnds

/-- The completion of an initiator read (R141): the flag clears; a read of an ended job, or one completing during a
soft reset, does nothing more (R138). -/
def State.initiatorResponse (s : State) (st : Status) (d : LineBytes) : State :=
  let j := s.audit.initiator
  let s1 := s.setInitiator { j with readOut := .none }
  if s.softReset then s1
  else
    match j.readOut with
    | .current =>
      (match st with
       | .okay => s1.initiatorLine d
       | .error => s1.endJob .aborted .memory none none)
    | .ended | .none => s1

/-- Expiry of the initiator's response timer (R144). -/
def State.responseExpired (s : State) : State :=
  s.endJob .timeout .none s.audit.initiator.digest? none

/-- AUDIT_ABORT accepted (R144). -/
def State.abortByCommand (s : State) : State := s.endJob .aborted .command s.audit.initiator.digest? none

/-! ### DGR (R143, R168) -/

/-- The tests of a DGR's status and reason (R168): 0 OK and 3 BUSY with reason 0, 1 DISTURBED with LATE or APPLY, 2
REFUSED with reason codes 4 to 8. -/
def dgrVerdict (status reason : Byte) : Option (DgrStatus × Reason) :=
  match status.toNat, Reason.ofCode reason.toNat with
  | 0, some .none => some (.ok, .none)
  | 3, some .none => some (.busy, .none)
  | 1, some .late => some (.disturbed, .late)
  | 1, some .apply => some (.disturbed, .apply)
  | 2, some .peer => some (.refused, .peer)
  | 2, some .notBound => some (.refused, .notBound)
  | 2, some .range => some (.refused, .range)
  | 2, some .memory => some (.refused, .memory)
  | 2, some .expired => some (.refused, .expired)
  | _, _ => none

/-- The DGR is current for the initiator job (R143). -/
def State.dgrCurrent (s : State) (f : DgrFrame) : Bool :=
  (s.audit.initiator.state == .waiting) && (f.tag == s.audit.initiator.tag) &&
    (f.target == s.audit.initiator.stream)

/-- A current DGR ends the job (Table 9-3). -/
def State.dgrOutcome (s : State) (st : DgrStatus) (r : Reason) (digest : Word32) : State :=
  let mine := s.audit.initiator.digest?
  match st with
  | .ok => s.endJob (if mine = some digest then .matched else .mismatch) .none mine (some digest)
  | .disturbed => s.endJob .disturbed r mine none
  | .refused => s.endJob .refused r mine none
  | .busy => s.endJob .refused .busy mine none

/-- An accepted DGR (R143, R168). -/
def State.dgrAccepted (f : DgrFrame) (s : State) : State :=
  match dgrVerdict f.status f.reason with
  | none => s
  | some (st, r) => if s.dgrCurrent f then s.dgrOutcome st r f.digest else s

/-! ### DGQ and the responder (R145 to R148) -/

/-- An answer into the immediate slot (R148). -/
def State.answerNow (s : State) (f : DgqFrame) (st : DgrStatus) (r : Reason) : State :=
  let s1 := { s with audit := { s.audit with
    immediateSlot := some { stream := f.target, target := f.origin, tag := f.tag, status := st, reason := r,
                            digest := 0#32 } } }
  s1.request4 .dgrImmediate

/-- The responder job takes a DGQ: ARMED with its timer running (R146). -/
def State.armResponder (s : State) (f : DgqFrame) : State :=
  let j := s.audit.responder
  s.setResponder { j with
    state := .armed, stream := f.target, session := f.session, origin := f.origin, firstLine := f.firstLine.toNat,
    lineCount := f.lineCount.toNat, mark := f.mark, tag := f.tag,
    timer := s.startTimer (s.global.auditTimeout * 1000) }

/-- An accepted DGQ (Table 9-4). An applied seq exactly 32768 away from the mark is row 7's "otherwise" (log 46). -/
def State.dgqAccepted (f : DgqFrame) (s : State) : State :=
  let st := s.stream f.target
  if st.cfg.direction = .send ∨ st.state ≠ .bound ∨ f.session ≠ st.session then s.answerNow f .refused .notBound
  else if f.origin ≠ st.cfg.peer then s.answerNow f .refused .peer
  else if f.lineCount = 0#21 ∨ st.cfg.lines < f.firstLine.toNat + f.lineCount.toNat then s.answerNow f .refused .range
  else if s.audit.responder.state ≠ .idle then s.answerNow f .busy .none
  else if seqAfter st.appliedSeq f.mark then s.answerNow f .disturbed .late
  else if st.appliedSeq = f.mark then (s.armResponder f).responderReads
  else s.armResponder f

/-- The address of the responder's next read (R146, R147). -/
def State.responderAddr (s : State) : Addr :=
  (s.stream s.audit.responder.stream).cfg.lineAddr s.audit.responder.nextLine

/-- The responder's read request stands (R147). -/
def State.responderRequest (s : State) : Bool :=
  (s.audit.responder.state == .reading) && (s.audit.responder.readOut == .none)

/-- The last line of the responder's range has been read (R147). -/
def State.responderEnds (s : State) : State :=
  if s.audit.responder.disturbed then s.endResponder .disturbed .apply 0#32
  else s.endResponder .ok .none (~~~s.audit.responder.crc)

/-- An OKAY read of the current responder job (R147). -/
def State.responderLine (s : State) (d : LineBytes) : State :=
  let j := s.audit.responder
  let s1 := s.setResponder { j with crc := crcLine j.crc d, nextLine := j.nextLine + 1 }
  if j.nextLine + 1 < j.firstLine + j.lineCount then s1 else s1.responderEnds

/-- The completion of a responder read (R147; R145 for a soft reset). -/
def State.responderResponse (s : State) (st : Status) (d : LineBytes) : State :=
  let j := s.audit.responder
  let s1 := s.setResponder { j with readOut := .none }
  if s.softReset then s1
  else
    match j.readOut with
    | .current =>
      (match st with
       | .okay => s1.responderLine d
       | .error => s1.endResponder .refused .memory 0#32)
    | .ended | .none => s1

/-- Expiry of the responder's timer in ARMED (R146). -/
def State.responderExpired (s : State) : State := s.endResponder .refused .expired 0#32

end Sys2Proof.Machine
end

