-- ==== Sys2Proof/Machine/Classify.lean ====
section
/-! DEFINITION. The Window Classifier: the checks on the head request, its disposition, and the slot wait (chapter
1). -/

namespace Sys2Proof.Machine

/-- The answer of one classification: the head is taken, or it waits, for a record slot of a stream (R13) or
otherwise. -/
inductive HeadAnswer where
  | taken (s : State)
  | waits
  | waitsSlot (stream : StreamId)
  deriving DecidableEq, Repr

/-! ### Dispositions -/

/-- Forward without a record or a mark (R10, R11, R14, R16). -/
def State.forwardPlain (s : State) (r : SpRequest) : State := s.forward r .plain

/-- Forward as a tracked write: the granule is marked dirty (R11, R12, R13). -/
def State.forwardTracked (s : State) (r : SpRequest) (i : StreamId) : State :=
  let line := (s.stream i).cfg.lineIndex r.addr
  (s.markLine i line).forward r (.tracked i line)

/-- A write placed in the send list of a stream in RESYNC or ACTIVE (R12). -/
def State.placeMirror (s : State) (r : SpRequest) (i : StreamId) : HeadAnswer :=
  let line := (s.stream i).cfg.lineIndex r.addr
  match s.offer i line r.payload with
  | (.merged slot, s1) => .taken (s1.forward r (.bound i slot))
  | (.recorded slot, s1) => .taken (s1.forward r (.bound i slot))
  | (.refused, _) =>
    match (s.stream i).cfg.policy with
    | .track => .taken (s.forwardTracked r i)
    | .stall => .waitsSlot i

/-- Refused with ERROR and not performed, with an event (R14, R16). -/
def State.refuseHead (s : State) (r : SpRequest) (c : EventCode) (i : StreamId) (detail : BitVec 20) : State :=
  (s.respond r.tag .error (responseData r.op r.addr .error (lineBytes (fun _ => 0#8)))).put c (some i) detail

/-- The gate is open (Table 7-1, row 1). -/
def Stream.gateOpen (st : Stream) : Bool := (st.state == .active) && st.markReached st.gateMark

/-- The gate check of a GATED head whose stream is in RESYNC or ACTIVE (R114). -/
def State.gateCheck (s : State) (r : SpRequest) (i : StreamId) (lanes : List Lane) : HeadAnswer :=
  if (s.stream i).gateOpen then s.placeMirror r i
  else
    match s.freeHold with
    | some k => .taken (s.takeHold k i r.tag r.addr lanes)
    | none => .waits

/-- The disposition of a MIRROR write (R11). LISTEN and BOUND cannot occur (R9, log 27). -/
def State.mirrorHead (s : State) (r : SpRequest) (i : StreamId) : HeadAnswer :=
  match (s.stream i).state with
  | .off | .closing => .taken (s.forwardPlain r)
  | .opening | .degraded => .taken (s.forwardTracked r i)
  | .resync | .active => s.placeMirror r i
  | .listen | .bound => .taken (s.forwardPlain r)

/-- The disposition of a GATED write (R14). LISTEN and BOUND cannot occur (R9, log 27). -/
def State.gatedHead (s : State) (r : SpRequest) (i : StreamId) (lanes : List Lane) : HeadAnswer :=
  match (s.stream i).state with
  | .off => .taken (s.forwardPlain r)
  | .resync | .active => s.gateCheck r i lanes
  | .opening | .degraded | .closing =>
    .taken (s.refuseHead r .gateRefused i (BitVec.ofNat 20 (s.stream i).state.code))
  | .listen | .bound => .taken (s.forwardPlain r)

/-- The disposition of a GUARDED write (R16). The states of a SEND stream but OFF cannot occur (R9, log 27). -/
def State.guardedHead (s : State) (r : SpRequest) (i : StreamId) : HeadAnswer :=
  match (s.stream i).state with
  | .listen | .bound => .taken (s.refuseHead r .guardViolation i ((s.stream i).cfg.lineIndex r.addr))
  | .off | .opening | .resync | .active | .degraded | .closing => .taken (s.forwardPlain r)

/-- The classification of a head by window and stream state (Table 1-5). -/
def State.classify (s : State) (r : SpRequest) : HeadAnswer :=
  match r.op with
  | .read _ => .taken (s.forwardPlain r)
  | .write lanes =>
    match s.windowOf r.addr with
    | none => .taken (s.forwardPlain r)
    | some w =>
      match w.kind with
      | .pass => .taken (s.forwardPlain r)
      | .mirror => s.mirrorHead r w.stream
      | .gated => s.gatedHead r w.stream lanes
      | .guarded => s.guardedHead r w.stream

/-- The checks on the head, in order (Table 1-2). -/
def State.tryHead (s : State) (r : SpRequest) : HeadAnswer :=
  if s.softReset then .waits
  else if s.tagOutstanding r.tag then .waits
  else if r.crossesLine then
    .taken (s.respond r.tag .error (responseData r.op r.addr .error (lineBytes (fun _ => 0#8))))
  else if r.emptyWrite then .taken (s.respond r.tag .okay [])
  else if s.heldLine (lineOf r.addr) then .waits
  else s.classify r

/-! ### The head and the slot-wait timer (R2, R13) -/

def State.setSlotWait (s : State) (w : Option SlotWait) : State := { s with sp := { s.sp with slotWait := w } }

/-- The head leaves the request channel. -/
def State.dropHead (s : State) : State := { s with sp := { s.sp with channel := s.sp.channel.tail } }

/-- A head waits for a slot of a stream: the timer keeps running for that stream, or starts with its stall timeout
(R13). -/
def State.waitForSlot (s : State) (i : StreamId) : State :=
  match s.sp.slotWait with
  | some w =>
    if w.stream = i then s
    else s.setSlotWait (some { stream := i, expiry := s.expiryIn (s.stream i).cfg.stallTimeout })
  | none => s.setSlotWait (some { stream := i, expiry := s.expiryIn (s.stream i).cfg.stallTimeout })

/-- Heads are taken one after another until one waits or the channel is empty (R2). Each taking is an event of its
own (log 6). -/
def State.drainHead : Nat → State → State
  | 0, s => s
  | n + 1, s =>
    match s.sp.channel with
    | [] => s.setSlotWait none
    | r :: _ =>
      match s.dropHead.tryHead r with
      | .taken s1 => State.drainHead n ((s1.setSlotWait none).flushOwed.serviceSearch)
      | .waits => s.setSlotWait none
      | .waitsSlot i => s.waitForSlot i

/-- The slot-wait timer expires: the head is taken as a tracked write (R13). -/
def State.slotWaitExpired (s : State) : State :=
  match s.sp.slotWait, s.sp.channel with
  | some w, r :: _ => (s.setSlotWait none).dropHead.forwardTracked r w.stream
  | _, _ => s

end Sys2Proof.Machine
end

