-- ==== Sys2Proof/Machine/MpOps.lean ====
section
/-! DEFINITION. The MP arbiter: sides, readers, withdrawal and issue; the routing of MP responses (chapter 10). -/

namespace Sys2Proof.Machine

/-! ### Who waits (R151, R152, R164) -/

/-- The copy read request stands. -/
def State.copyRequest (s : State) : Bool :=
  match s.engine.state with
  | .requested _ _ => true
  | .idle | .waiting _ | .reading _ => false

/-- A reader's request stands (R152). -/
def State.readerStands (s : State) : Reader → Bool
  | .copy => s.copyRequest
  | .initiator => s.initiatorRequest
  | .responder => s.responderRequest

/-- The readers from the one after the pointer on (R152). -/
def readersAfter : Reader → List Reader
  | .copy => [.initiator, .responder, .copy]
  | .initiator => [.responder, .copy, .initiator]
  | .responder => [.copy, .initiator, .responder]

/-- The first standing reader after the pointer. -/
def State.nextReader (s : State) : Option Reader := (readersAfter s.mp.readerPointer).find? s.readerStands

/-- The through side is waiting (R151). -/
def State.throughWaits (s : State) : Bool := !s.mp.throughQueue.isEmpty

/-- The internal side is waiting; none of it is granted during a soft reset (R151, R153). -/
def State.internalWaits (s : State) : Bool := !s.softReset && (s.applyRequest || s.nextReader.isSome)

/-- The side granted (R151). -/
def State.grantSide (s : State) : Option Side :=
  match s.throughWaits, s.internalWaits with
  | true, true => some (match s.mp.lastSide with
    | .through => .internal
    | .internal => .through)
  | true, false => some .through
  | false, true => some .internal
  | false, false => none

/-! ### Issue -/

/-- A request is issued on the MP request channel (R149, log 10). -/
def State.issue (s : State) (m : MpRequest) : State :=
  { s with mp := { s.mp with outstanding := s.mp.outstanding ++ [m] }, out := { s.out with mpRequest := some m } }

def State.setLastSide (s : State) (x : Side) : State := { s with mp := { s.mp with lastSide := x } }

def State.setReaderPointer (s : State) (x : Reader) : State := { s with mp := { s.mp with readerPointer := x } }

/-- The MP tag of a through request: its SP tag (Table 10-1). -/
def throughTag (t : SpTag) : MpTag := Fin.ofNat 32 t.val

/-- A through request as issued. -/
def ThroughReq.mpRequest (q : ThroughReq) : MpRequest :=
  { tag := throughTag q.req.tag, addr := q.req.addr, op := q.req.op, owner := .through q.use }

/-- A grant on the through side (R150, R151): the head is issued; the Resync Engine acts on the removal of a write's
issue-pending entry (R130). -/
def State.grantThrough (s : State) : State :=
  match s.mp.throughQueue with
  | [] => s
  | q :: rest =>
    (({ s with mp := { s.mp with throughQueue := rest } }.setLastSide .through).issue q.mpRequest).engineRetest

/-- The apply write of an entry (R103, Table 10-1); its data at the positions without a strobe are free (log 48). -/
def State.applyWrite (s : State) (e : ApplyEntry) (t : MpTag) : MpRequest :=
  { tag := t, addr := (s.stream e.stream).cfg.lineAddr e.line.toNat,
    op := .write (e.payload.lanes (Config.freeByte s.choices)), owner := .apply }

/-- An apply write is granted (R103, R147, R152). -/
def State.grantApply (s : State) : State :=
  match s.issuePoint, s.freeApplyTag with
  | some e, some t =>
    let m := s.applyWrite e t
    let s1 := { s with apply := { s.apply with queue := issueFirst t s.apply.queue }, choices := s.choices + 1 }
    ((s1.setLastSide .internal).issue m).applyDisturbs m.addr
  | _, _ => s

/-- A full-line read under a tag (Table 10-1). -/
def lineRead (t : MpTag) (a : Addr) (o : MpOwner) : MpRequest := { tag := t, addr := a, op := .read 64, owner := o }

/-- The line index of a stream's copy position, with its address. -/
def Stream.copyTarget (st : Stream) : Option (LineIndex × Addr) :=
  st.copyPos.map (fun p => (BitVec.ofNat 20 (st.cfg.copyLine p), st.cfg.lineAddr (st.cfg.copyLine p)))

/-- The read that a copy request would issue, where the issue condition holds (R131). -/
def State.copyIssue (s : State) : Option CopyRead :=
  match s.engine.state with
  | .requested i ses =>
    (match (s.stream i).copyTarget with
     | some (line, a) =>
       if (s.stream i).state = .resync ∧ (s.stream i).session = ses ∧ s.linePending a = false then
         some { stream := i, session := ses, line := line, lineAddr := a, spoiled := false }
       else none
     | none => none)
  | .idle | .waiting _ | .reading _ => none

/-- A copy read request that fails its issue condition is withdrawn (R131). -/
def State.withdrawCopy (s : State) : State :=
  match s.engine.state with
  | .requested i _ =>
    if (s.stream i).state = .resync ∧ s.copyLinePending i = true then s.setEngine (.waiting i) else s.setEngine .idle
  | .idle | .waiting _ | .reading _ => s

/-- The copy read is granted (R131). -/
def State.grantCopy (s : State) (r : CopyRead) : State :=
  let s1 := { s with engine := { s.engine with state := .reading r, pointer := r.stream } }
  ((s1.setLastSide .internal).setReaderPointer .copy).issue (lineRead 20 r.lineAddr .copy)

/-- An audit initiator read is granted (R141). -/
def State.grantInitiator (s : State) : State :=
  let a := s.initiatorAddr
  let s1 := s.setInitiator { s.audit.initiator with readOut := .current }
  ((s1.setLastSide .internal).setReaderPointer .initiator).issue (lineRead 21 a .initiator)

/-- An audit responder read is granted (R147). -/
def State.grantResponder (s : State) : State :=
  let a := s.responderAddr
  let s1 := s.setResponder { s.audit.responder with readOut := .current }
  ((s1.setLastSide .internal).setReaderPointer .responder).issue (lineRead 22 a .responder)

/-- A grant on the internal side: an apply write ahead of the readers (R152). -/
def State.grantInternal (s : State) : State :=
  if s.applyRequest then s.grantApply
  else
    match s.nextReader with
    | some .copy =>
      (match s.copyIssue with
       | some r => s.grantCopy r
       | none => s)
    | some .initiator => s.grantInitiator
    | some .responder => s.grantResponder
    | none => s

/-- The arbiter would choose the copy read, and its issue condition fails (R153). -/
def State.copyFailsAtGrant (s : State) : Bool :=
  (s.grantSide == some .internal) && !s.applyRequest && (s.nextReader == some .copy) && s.copyIssue.isNone

/-- The withdrawal of a copy read chosen in vain: the arbiter then chooses again (R153). -/
def State.passCopy (s : State) : State := if s.copyFailsAtGrant then s.withdrawCopy else s

/-- One grant of the MP arbiter (R151). That the MP request channel is ready is what the command says: no field holds
it, and a request made on an idle channel waits for the next command (log 47). -/
def State.mpGrant (s : State) : State :=
  let s1 := s.passCopy
  match s1.grantSide with
  | some .through => s1.grantThrough
  | some .internal => s1.grantInternal
  | none => s1

/-! ### Responses (R155, R156) -/

/-- The outstanding request of a tag. -/
def State.outstandingOf (s : State) (t : MpTag) : Option MpRequest := s.mp.outstanding.find? (fun m => m.tag == t)

/-- The request ceases to be outstanding. -/
def State.retireTag (s : State) (t : MpTag) : State :=
  { s with mp := { s.mp with outstanding := s.mp.outstanding.filter (fun m => m.tag != t) } }

/-- The outcome of an apply write's response (R104). -/
def Status.outcome : Status → ApplyOutcome
  | .okay => .okay
  | .error => .error

/-- What a through write's response also does: nothing, the local completion of its record, or MEM_ERROR for a
tracked write (Table 10-2, R156). -/
def State.throughUse (s : State) (u : WriteUse) (st : Status) : State :=
  match u with
  | .plain => s
  | .bound i slot => s.localComplete i slot st
  | .tracked i line =>
    match st with
    | .okay => s
    | .error => s.memError i line

/-- A response delivered to its owner (Table 10-2). -/
def State.deliver (s : State) (m : MpRequest) (st : Status) (d : LineBytes) : State :=
  match m.owner with
  | .through u => (s.respond (Fin.ofNat 16 m.tag.val) st (responseData m.op m.addr st d)).throughUse u st
  | .apply => s.applyDone m.tag (Status.outcome st)
  | .copy => s.copyResponse st d
  | .initiator => s.initiatorResponse st d
  | .responder => s.responderResponse st d

/-- The Memory Port takes a response: one without an outstanding request is discarded (R155). -/
def State.mpResponse (s : State) (t : MpTag) (st : Status) (d : LineBytes) : State :=
  match s.outstandingOf t with
  | none => s
  | some m => (s.retireTag t).deliver m st d

end Sys2Proof.Machine
end

