-- ==== Sys2Proof/Machine/Settle.lean ====
section
/-! DEFINITION. What every event causes in the other blocks before it ends: the Apply Engine's pass, the owed
STREAM_STATE entries, the head's new classification, the service search, the standing requests (log 4). -/

namespace Sys2Proof.Machine

/-- At one event, both a waiting head could look for a slot and the Resync Engine could search (log 5). -/
def State.orderOpen (s : State) : Bool :=
  !s.sp.channel.isEmpty && (s.engine.state == .idle) && allStreams.any (fun i => (s.stream i).served)

/-- The service search and the new classification of the head, in the order a free choice gives (log 5). -/
def State.searchAndDrain (s : State) : State :=
  let n := s.sp.channel.length + 1
  if s.orderOpen then
    let s1 := { s with choices := s.choices + 1 }
    if Config.freeChoice s.choices then (State.drainHead n s1.serviceSearch).serviceSearch
    else (State.drainHead n s1).serviceSearch
  else (State.drainHead n s).serviceSearch

/-- The end of an event. During a soft reset, and while RESET_N is asserted, no block acts on its own (R164, R165). -/
def settle (s : State) : State :=
  if s.softReset || s.resetAsserted then s.flushOwed
  else
    ((State.applyPass (s.apply.queue.length + 1) s).flushOwed).searchAndDrain.refreshRequests

/-- An event of the part with its effect: nothing happens while RESET_N is asserted (R165, log 14). -/
def happen (f : State → State) (s : State) : Host.Outcome State Fault Refusal :=
  if s.resetAsserted then .next s else .next (settle (f s))

end Sys2Proof.Machine
end

