-- ==== Sys2Proof/Machine/ControlRead.lean ====
section
/-! DEFINITION. Reading the control space: the value of every word (section 12.2, R158, R170). -/

namespace Sys2Proof.Machine

def Direction.bit : Direction → Bool
  | .send => false
  | .receive => true

def Policy.bit : Policy → Bool
  | .track => false
  | .stall => true

/-- Bits 35 to 32 of an address in bits 3 to 0 of a word. -/
def addrHigh (a : Addr) : Word32 := (a.extractLsb' 32 4).setWidth 32

/-- Bits 31 to 0 of an address. -/
def addrLow (a : Addr) : Word32 := a.setWidth 32

/-- Global configuration words (Table 12-5). -/
def State.readGlobal (s : State) (k : Nat) : Word32 :=
  let g := s.global
  match k with
  | 0 => putField g.poolLowThreshold 0 9 ||| putBit g.alertEnable 16 ||| putBit s.linkEnabled 31
  | 1 => putField g.trainingTimeout 0 8 ||| putField g.downRetry 8 8 ||| putField g.keepalive 16 8 |||
      putField g.silence 24 8
  | 2 => putField g.holdTimeout 0 16 ||| putField g.auditTimeout 16 8
  | 3 => putField g.ackBatch 0 5 ||| putField g.ackDelay 8 8
  | _ => 0#32

/-- Window Table words (Table 12-6). -/
def Window.read (w : Window) (offset : Nat) : Word32 :=
  match offset with
  | 0 => putBit w.enable 0 ||| putField w.kind.code 4 2 ||| putField w.stream.val 8 3 ||| putField w.sizeCode 16 5
  | 1 => addrLow w.base
  | 2 => addrHigh w.base
  | _ => 0#32

/-- The copy position word: an absent one reads granule 0 and line 0 (R170). A granule above 1023 (log 41) reads its low
10 bits. -/
def copyPosWord : Option CopyPos → Word32
  | some p => putField p.granule 0 10 ||| putField p.line 16 10 ||| putBit true 31
  | none => 0#32

/-- Stream Table words (Table 12-7). -/
def Stream.read (st : Stream) (offset : Nat) : Word32 :=
  let c := st.cfg
  match offset with
  | 0 => putBit c.direction.bit 0 ||| putField c.sizeCode 4 4 ||| putField c.peer.val 8 3 ||| putBit c.policy.bit 12 |||
      putBit c.autoReopen 13
  | 1 => addrLow c.extentBase
  | 2 => addrHigh c.extentBase
  | 3 => putField c.reserve 0 7 ||| putField c.limit 16 10
  | 4 => putField c.stallTimeout 0 10 ||| putField c.combineHold 16 8
  | 5 => putField c.ackTimeout 0 12 ||| putField c.retryLimit 16 4
  | 6 => putField st.state.code 0 4 ||| putField st.cause.code 8 4 ||| putField st.reason.code 16 4
  | 7 => putField st.session.toNat 0 8 ||| putField st.retryCount 8 4 ||| putField st.dirtyCount 16 11
  | 8 => putField st.nextSeq.toNat 0 16 ||| putField st.ackedSeq.toNat 16 16
  | 9 => putField st.sentSeq.toNat 0 16
  | 10 => copyPosWord st.copyPos
  | 11 => putField st.acceptSeq.toNat 0 16 ||| putField st.appliedSeq.toNat 16 16
  | 12 => putBit st.nakOutstanding 0 ||| putField st.unacked 8 8 ||| putField st.ackCount 16 6
  | _ => 0#32

/-- The link status word 0310H. -/
def State.readLink (s : State) : Word32 :=
  putField s.link.state.code 0 2 ||| putBit s.link.confirmed 4 ||| putField s.link.credits 8 6 |||
    putField s.apply.queue.length 16 6

/-- The audit job word 0320H. -/
def State.readAuditJob (s : State) : Word32 :=
  let j := s.audit.initiator
  putField j.state.code 0 2 ||| putField j.stream.val 4 3 ||| putBit (j.readOut != .none) 7 |||
    putField j.tag.toNat 8 8 ||| putField j.mark.toNat 16 16

/-- The audit result word 0321H. -/
def AuditResult.read (r : AuditResult) : Word32 :=
  putField r.outcome.code 0 4 ||| putField r.reason.code 8 4 ||| putField r.tag.toNat 16 8 |||
    putField r.stream.val 24 3 ||| putBit r.localDigest.isSome 28 ||| putBit r.partnerDigest.isSome 29

/-- The command result word 0331H. -/
def CommandResult.read (r : CommandResult) : Word32 :=
  putField r.outcome.code 0 2 ||| putField r.code.toNat 8 8 ||| putField r.stream.val 16 3

/-- An event entry as the pop word returns it (Table 12-9). -/
def Event.word (e : Event) : Word32 :=
  putField e.code.code 0 8 |||
    (match e.stream with
     | some i => putField i.val 8 3 ||| putBit true 11
     | none => 0#32) |||
    (e.detail.setWidth 32 <<< 12)

/-- The pop word: the oldest entry, or 0 for an empty queue (R161, R170). -/
def EventQueue.popWord (q : EventQueue) : Word32 :=
  match q.entries with
  | e :: _ => e.word
  | [] => 0#32

/-- The event status word 0342H. The time counter is read here, as R161 and Table 12-4 have it; R160 names the event
time word, which holds the latched time (log 49). -/
def EventQueue.statusWord (q : EventQueue) : Word32 :=
  putField q.entries.length 0 6 ||| putBit q.lost 6 ||| (q.time <<< 8)

/-- The single status words of Table 12-4 from 0300H on. -/
def State.readStatus (s : State) (a : Nat) : Word32 :=
  match a with
  | 0x300 => putField s.freeCount 0 10
  | 0x301 => putField s.pool.minFree 0 10
  | 0x310 => s.readLink
  | 0x311 => putField s.link.frameErrors 0 16
  | 0x312 => s.link.partnerId
  | 0x313 => putField s.link.txNumber.toNat 0 8 ||| putField s.link.rxNumber.toNat 8 8
  | 0x320 => s.readAuditJob
  | 0x321 => s.audit.result.read
  | 0x322 => s.audit.result.localDigest.getD 0#32
  | 0x323 => s.audit.result.partnerDigest.getD 0#32
  | 0x330 => s.mgmt.commandWord
  | 0x331 => s.mgmt.result.read
  | 0x340 => s.events.popWord
  | 0x341 => s.events.latchedTime
  | 0x342 => s.events.statusWord
  | _ => 0#32

/-- The value of a control-space word, standing at the read (Table 12-4). A word outside every region reads 0
(R158). -/
def State.controlRead (s : State) (address : BitVec 16) : Word32 :=
  let a := address.toNat
  if a = 0 then identityWord
  else if 0x10 ≤ a ∧ a ≤ 0x13 then s.readGlobal (a - 0x10)
  else if 0x100 ≤ a ∧ a ≤ 0x13F then (s.window (Fin.ofNat 16 ((a - 0x100) / 4))).read ((a - 0x100) % 4)
  else if 0x200 ≤ a ∧ a ≤ 0x27F then (s.stream (Fin.ofNat 8 ((a - 0x200) / 16))).read ((a - 0x200) % 16)
  else if 0x302 ≤ a ∧ a ≤ 0x309 then putField (s.stream (Fin.ofNat 8 (a - 0x302))).usage 0 10
  else s.readStatus a

end Sys2Proof.Machine
end

