-- ==== Sys2Proof/Machine/CommandOps.lean ====
section
/-! DEFINITION. The commands of the command word: acceptance and effect (Tables 3-4, 4-2, 11-2; R140, R144, R163). -/

namespace Sys2Proof.Machine

/-! ### Stream commands (Table 3-4) -/

/-- The result of OPEN and OPEN_CLEAN. -/
def Stream.openResult (st : Stream) : CommandOutcome :=
  if st.cfg.direction = .receive ∨ st.cfg.limit = 0 ∨ st.cfg.aligned = false then .refusedParam
  else if st.state ≠ .off then .refusedState
  else .done

/-- The result of REOPEN. -/
def Stream.reopenResult (st : Stream) : CommandOutcome :=
  if st.cfg.direction = .receive then .refusedParam
  else if st.state ≠ .degraded then .refusedState
  else .done

/-- The result of CLOSE. -/
def Stream.closeResult (st : Stream) : CommandOutcome :=
  if st.cfg.direction = .receive then .refusedParam
  else if st.state ≠ .resync ∧ st.state ≠ .active then .refusedState
  else .done

/-- The result of LISTEN. -/
def Stream.listenResult (st : Stream) : CommandOutcome :=
  if st.cfg.direction = .send ∨ st.cfg.aligned = false then .refusedParam
  else if st.state ≠ .off then .refusedState
  else .done

/-- OPEN accepted: every granule of the extent is marked dirty (R51). -/
def State.doOpen (s : State) (i : StreamId) : State :=
  (s.modStream i (fun st => { st with dirty := List.range st.cfg.granules })).toOpening i .command

/-- OPEN_CLEAN accepted: the dirty map is left as it stands (R51). -/
def State.doOpenClean (s : State) (i : StreamId) : State := s.toOpening i .command

/-- REOPEN accepted: the dirty map is kept (R57). -/
def State.doReopen (s : State) (i : StreamId) : State := s.toOpening i .command

/-- LISTEN accepted (R61). -/
def State.doListen (s : State) (i : StreamId) : State :=
  (s.modStream i Stream.clearReceive).changeState i .listen .command .none

/-- RESET_STREAM accepted (R60, R64): nothing changes in OFF. -/
def State.doReset (s : State) (i : StreamId) : State :=
  if (s.stream i).state = .off then s
  else
    match (s.stream i).cfg.direction with
    | .send => s.resetSend i
    | .receive => s.leaveBound i .off .command .none

/-! ### Link commands (Table 4-2) -/

def State.linkEnableResult (s : State) : CommandOutcome := if s.link.state = .off then .done else .refusedState

def State.linkRetrainResult (s : State) : CommandOutcome := if s.link.state = .up then .done else .refusedState

/-- LINK_DISABLE accepted in any state (Table 4-2). -/
def State.doLinkDisable (s : State) : State :=
  match s.link.state with
  | .off => s
  | .down => { s with link := { s.link with state := .off, downTimer := none } }
  | .training | .up => s.disableLink

/-! ### Audit commands (R140, R144) -/

def State.auditStartResult (s : State) (p : CmdParams) : CommandOutcome :=
  let st := s.stream p.stream
  let n := p.granuleCount.toNat
  if st.cfg.direction = .receive ∨ n = 0 ∨ 1024 < n ∨ st.cfg.granules < p.firstGranule.toNat + n then .refusedParam
  else if st.state ≠ .active ∨ s.audit.initiator.state ≠ .idle then .refusedState
  else .done

def State.auditAbortResult (s : State) : CommandOutcome :=
  if s.audit.initiator.state = .idle then .refusedState else .done

/-! ### Soft reset (R163, R164) -/

/-- Every timer of a stream is stopped, its records' combine deadlines among them (R164). -/
def Stream.stopTimers (st : Stream) : Stream :=
  { st with handshakeTimer := none, retransmitTimer := none, ackDelayTimer := none,
            sendList := st.sendList.map Record.noDeadline }

def Link.stopTimers (l : Link) : Link :=
  { l with helloTimer := none, trainingTimer := none, downTimer := none, keepaliveTimer := none,
           silenceTimer := none }

def AuditUnit.stopTimers (a : AuditUnit) : AuditUnit :=
  { a with initiator := { a.initiator with timer := none }, responder := { a.responder with timer := none } }

/-- A copy read request standing at the start of a soft reset is withdrawn (R131, R153). -/
def EngineState.withdrawn (e : EngineState) : EngineState :=
  match e with
  | .requested _ _ => .idle
  | e => e

/-- Steps 1 and 2 of a soft reset: acceptance stops, every held write is answered, in taking order as no rule orders
them (log 43), internal requests are withdrawn, every timer is stopped (R163, R164). -/
def State.doSoftReset (s : State) : State :=
  let s1 := (s.answerHolds s.slotsInOrder).mapStreams (fun _ st => st.stopTimers)
  { s1 with
    sp := { s1.sp with slotWait := none }, link := s1.link.stopTimers, audit := s1.audit.stopTimers,
    engine := { s1.engine with state := s1.engine.state.withdrawn }, softReset := true }

/-! ### Taking a command (R159) -/

/-- The command word as written (Table 12-8). -/
def CmdParams.word (code : Byte) (p : CmdParams) : Word32 :=
  putField code.toNat 0 8 ||| putField p.stream.val 8 3 ||| putField p.granuleCount.toNat 11 11 |||
    putField p.firstGranule.toNat 22 10

/-- The parameters of a written command word (Table 12-8). -/
def cmdParams (w : Word32) : CmdParams :=
  { stream := streamField w 8, granuleCount := w.extractLsb' 11 11, firstGranule := w.extractLsb' 22 10 }

/-- The command result word takes the outcome, the code and the stream as written (R159). -/
def State.setResult (s : State) (o : CommandOutcome) (code : Byte) (i : StreamId) : State :=
  { s with mgmt := { s.mgmt with result := { outcome := o, code := code, stream := i } } }

/-- A command with its result: its effect is made where the result is DONE, and nothing else changes where it is
refused (R50, R67, R140, R159). -/
def State.command (s : State) (code : Byte) (p : CmdParams) (o : CommandOutcome) (effect : State → State) : State :=
  let s1 := { s with mgmt := { s.mgmt with commandWord := CmdParams.word code p } }
  match o with
  | .done => (effect s1).setResult .done code p.stream
  | .none | .refusedState | .refusedParam => s1.setResult o code p.stream

/-- The command a code names, taken (Table 11-2). A code that names none gives REFUSED_PARAM. -/
def State.takeCommand (s : State) (code : Byte) (p : CmdParams) : State :=
  let i := p.stream
  match code.toNat with
  | 0x01 => s.command code p (s.stream i).openResult (fun s => s.doOpen i)
  | 0x02 => s.command code p (s.stream i).openResult (fun s => s.doOpenClean i)
  | 0x03 => s.command code p (s.stream i).reopenResult (fun s => s.doReopen i)
  | 0x04 => s.command code p (s.stream i).closeResult (fun s => s.toClosing i)
  | 0x05 => s.command code p .done (fun s => s.doReset i)
  | 0x06 => s.command code p (s.stream i).listenResult (fun s => s.doListen i)
  | 0x10 => s.command code p s.linkEnableResult State.enterTraining
  | 0x11 => s.command code p .done State.doLinkDisable
  | 0x12 => s.command code p s.linkRetrainResult (fun s => s.retrain .command)
  | 0x20 => s.command code p (s.auditStartResult p)
      (fun s => s.startAudit i p.firstGranule.toNat p.granuleCount.toNat)
  | 0x21 => s.command code p s.auditAbortResult State.abortByCommand
  | 0x5A => s.command code p .done State.doSoftReset
  | _ => s.command code p .refusedParam id

end Sys2Proof.Machine
end

