-- ==== Sys2Proof/Machine/ControlWrite.lean ====
section
/-! DEFINITION. Writing the control space: the checks and the effect of every word's write, and the SPI transaction
(R157, R158, R169, Tables 12-4 to 12-8). A write answers none where it is refused. -/

namespace Sys2Proof.Machine

/-! ### Global configuration (Table 12-5) -/

/-- Word 0010H: pool low threshold and alert enable; the monitor is tested at once (R42, R162). No value of either fails
a check, so the word is accepted; bit 31, the link enable indication, is read-only and ignored (R158, log 44). -/
def State.writeThreshold (s : State) (w : Word32) : Option State :=
  some (State.poolThresholdTest { s with
    global := { s.global with poolLowThreshold := fieldOf w 0 9, alertEnable := bitOf w 16 } })

/-- Word 0011H: no field 0, and the silence timeout at least twice the keepalive interval (R68, R169). -/
def State.writeLinkTiming (s : State) (w : Word32) : Option State :=
  let t := fieldOf w 0 8
  let d := fieldOf w 8 8
  let k := fieldOf w 16 8
  let q := fieldOf w 24 8
  if t = 0 ∨ d = 0 ∨ k = 0 ∨ q = 0 ∨ q < 2 * k then none
  else some { s with global := { s.global with trainingTimeout := t, downRetry := d, keepalive := k, silence := q } }

/-- Word 0012H (R116, R139). -/
def State.writeHoldAudit (s : State) (w : Word32) : Option State :=
  let h := fieldOf w 0 16
  let a := fieldOf w 16 8
  if h = 0 ∨ a = 0 then none
  else some { s with global := { s.global with holdTimeout := h, auditTimeout := a } }

/-- Word 0013H (R99). -/
def State.writeAck (s : State) (w : Word32) : Option State :=
  let b := fieldOf w 0 5
  let d := fieldOf w 8 8
  if b = 0 ∨ 16 < b ∨ d = 0 then none
  else some { s with global := { s.global with ackBatch := b, ackDelay := d } }

/-! ### Window Table (R7, R8, Table 12-6) -/

/-- The window lies wholly inside the extent (Table 1-4). -/
def StreamConfig.contains (c : StreamConfig) (w : Window) : Bool :=
  decide (c.extentBase.toNat ≤ w.base.toNat) && decide (w.base.toNat + w.bytes ≤ c.extentBase.toNat + c.bytes)

/-- The checks on enabling a window (Table 1-4). -/
def Window.enableChecks (w : Window) (c : StreamConfig) : Bool :=
  (w.base.toNat % w.bytes == 0) &&
    (match w.kind with
     | .pass => true
     | .mirror | .gated => (c.direction == .send) && c.contains w
     | .guarded => (c.direction == .receive) && c.contains w)

/-- The entry that word +0 would leave. -/
def Window.withControl (e : Window) (w : Word32) : Window :=
  { e with enable := bitOf w 0, kind := WindowKind.ofCode (fieldOf w 4 2), stream := streamField w 8,
           sizeCode := fieldOf w 16 5 }

/-- The entry that word +1 would leave: address bits 31 to 6 (bits 5 to 0 ignored). -/
def Window.withBaseLow (e : Window) (w : Word32) : Window :=
  { e with base := (e.base.extractLsb' 32 4) ++ (w &&& ~~~(63#32)) }

/-- The entry that word +2 would leave: address bits 35 to 32. -/
def Window.withBaseHigh (e : Window) (w : Word32) : Window :=
  { e with base := (w.extractLsb' 0 4) ++ (e.base.extractLsb' 0 32) }

/-- The fields of an entry but for enable are equal. -/
def Window.sameFields (a b : Window) : Bool :=
  (a.kind == b.kind) && (a.base == b.base) && (a.sizeCode == b.sizeCode) && (a.stream == b.stream)

/-- The entry as a write would leave it, if the write is accepted (R7, R8). -/
def State.checkWindow (s : State) (old new : Window) : Bool :=
  if old.enable then old.sameFields new
  else decide (new.sizeCode ≤ 28) && (!new.enable || new.enableChecks (s.stream new.stream).cfg)

/-- A write of a window word (R7, R8); word +3 is read-only (Table 12-6). -/
def State.writeWindow (s : State) (n : Fin 16) (offset : Nat) (w : Word32) : Option State :=
  let old := s.window n
  let put := fun new => if s.checkWindow old new then some (s.setWindow n new) else none
  match offset with
  | 0 => put (old.withControl w)
  | 1 => put (old.withBaseLow w)
  | 2 => put (old.withBaseHigh w)
  | _ => none

/-! ### Stream Table (R35, R46, Table 12-7) -/

/-- The sum of the reserves of the other seven streams (R35). -/
def State.otherReserves (s : State) (i : StreamId) : Nat :=
  (allStreams.map (fun t => if t = i then 0 else (s.stream t).cfg.reserve)).sum

def directionOf (b : Bool) : Direction := if b then .receive else .send

def policyOf (b : Bool) : Policy := if b then .stall else .track

/-- Word +0: size code and direction are checked (R46). -/
def Stream.writeControl (st : Stream) (w : Word32) : Option StreamConfig :=
  let d := directionOf (bitOf w 0)
  let z := fieldOf w 4 4
  if 14 < z ∨ (d ≠ st.cfg.direction ∧ 0 < st.usage) then none
  else some { st.cfg with direction := d, sizeCode := z, peer := streamField w 8, policy := policyOf (bitOf w 12),
                          autoReopen := bitOf w 13 }

/-- Word +3: reserve and limit (R35). -/
def State.writeReserve (s : State) (i : StreamId) (w : Word32) : Option StreamConfig :=
  let r := fieldOf w 0 7
  let l := fieldOf w 16 10
  if 64 < r ∨ 256 < s.otherReserves i + r ∨ l = 0 ∨ 512 < l ∨ l < (s.stream i).usage then none
  else some { (s.stream i).cfg with reserve := r, limit := l }

/-- Word +4: stall timeout and combine hold (R46). -/
def StreamConfig.writeStall (c : StreamConfig) (w : Word32) : Option StreamConfig :=
  if fieldOf w 0 10 = 0 then none
  else some { c with stallTimeout := fieldOf w 0 10, combineHold := fieldOf w 16 8 }

/-- Word +5: ack timeout and retry limit (R46). -/
def StreamConfig.writeAckTimeout (c : StreamConfig) (w : Word32) : Option StreamConfig :=
  if fieldOf w 0 12 = 0 ∨ fieldOf w 16 4 = 0 then none
  else some { c with ackTimeout := fieldOf w 0 12, retryLimit := fieldOf w 16 4 }

/-- The configuration that a write of a configuration word would leave; the run words are read-only (Table 12-7). -/
def State.newConfig (s : State) (i : StreamId) (offset : Nat) (w : Word32) : Option StreamConfig :=
  let st := s.stream i
  let c := st.cfg
  match offset with
  | 0 => st.writeControl w
  | 1 => some { c with extentBase := (c.extentBase.extractLsb' 32 4) ++ (w &&& ~~~(4095#32)) }
  | 2 => some { c with extentBase := (w.extractLsb' 0 4) ++ (c.extentBase.extractLsb' 0 32) }
  | 3 => s.writeReserve i w
  | 4 => c.writeStall w
  | 5 => c.writeAckTimeout w
  | _ => none

/-- A write of a stream word: in OFF only, and only while no enabled window names the stream (R46). -/
def State.writeStream (s : State) (i : StreamId) (offset : Nat) (w : Word32) : Option State :=
  if (s.stream i).state = .off ∧ s.named i = false then
    match s.newConfig i offset w with
    | some c => some (s.modStream i (fun st => { st with cfg := c }))
    | none => none
  else none

/-! ### Any word (Table 11-1, R158) -/

/-- A write of a control-space word outside a soft reset: none where it is read-only, outside every region, or fails
its owner's check. -/
def State.controlWrite (s : State) (address : BitVec 16) (w : Word32) : Option State :=
  let a := address.toNat
  if a = 0x10 then s.writeThreshold w
  else if a = 0x11 then s.writeLinkTiming w
  else if a = 0x12 then s.writeHoldAudit w
  else if a = 0x13 then s.writeAck w
  else if 0x100 ≤ a ∧ a ≤ 0x13F then s.writeWindow (Fin.ofNat 16 ((a - 0x100) / 4)) ((a - 0x100) % 4) w
  else if 0x200 ≤ a ∧ a ≤ 0x27F then s.writeStream (Fin.ofNat 8 ((a - 0x200) / 16)) ((a - 0x200) % 16) w
  else if a = 0x330 then some (s.takeCommand (w.extractLsb' 0 8) (cmdParams w))
  else none

/-! ### SPI transactions (R157) -/

def State.setSpi (s : State) (p : SpiPort) : State := { s with mgmt := { s.mgmt with spi := p } }

/-- The word is the next one of the transaction under way: same kind, and placed at the port's address. Any other word
begins a transaction of its own (log 12). -/
def SpiPort.continues (p : SpiPort) (k : SpiKind) (a : BitVec 16) : Bool := (p.kind == k) && (p.address == a)

/-- The status of the word's transaction before the word is acted on: OK where it begins one (R157). -/
def SpiPort.standing (p : SpiPort) (k : SpiKind) (a : BitVec 16) : Bool := p.continues k a && p.refused

/-- What MISO carries ahead of a word that begins a transaction: 00H in the command and address bytes, then the status
OK (R157). -/
def SpiPort.lead (p : SpiPort) (k : SpiKind) (a : BitVec 16) : List Miso :=
  if p.continues k a then [] else [.zero, .status false]

/-- The port after a word of a WRITE transaction, refused or not: the address has risen, and every byte that follows
carries the status (R157, R158). -/
def SpiPort.wrote (p : SpiPort) (a : BitVec 16) (refused : Bool) : SpiPort :=
  { kind := .write, address := a + 1, refused := p.standing .write a || refused,
    miso := p.lead .write a ++ [.status (p.standing .write a || refused)] }

/-- The address after a word of a READ transaction: within the event region the pop word follows the event time word
(R157, R161). -/
def readAddressAfter (a : BitVec 16) : BitVec 16 := if a = 0x341#16 then 0x340#16 else a + 1

/-- The port after a word of a READ transaction with its value shifted out (R157). -/
def SpiPort.gave (p : SpiPort) (a : BitVec 16) (value : Word32) : SpiPort :=
  { kind := .read, address := readAddressAfter a, refused := p.standing .read a,
    miso := p.lead .read a ++ [.word value] }

/-- In a transaction with a bad command byte every later byte carries REFUSED, and no word is read or written
(R157). -/
def SpiPort.turnedAway (p : SpiPort) : SpiPort := { p with miso := [.status true] }

/-- A word of a WRITE transaction at its 32nd bit (R157, R158, R164): refused during a soft reset. -/
def State.spiWrite (s : State) (address : BitVec 16) (write : State → Option State) : State :=
  if s.mgmt.spi.kind = .bad then s.setSpi s.mgmt.spi.turnedAway
  else if s.softReset then s.setSpi (s.mgmt.spi.wrote address true)
  else
    match write (s.setSpi (s.mgmt.spi.wrote address false)) with
    | some s1 => s1
    | none => s.setSpi (s.mgmt.spi.wrote address true)

/-- The pop word is read: the oldest entry leaves, its time is latched, and the lost flag clears where the queue is
left empty (R161). -/
def State.popEvent (s : State) : State :=
  let q := s.events
  match q.entries with
  | [] => { s with events := { q with latchedTime := 0#32, lost := false } }
  | e :: rest => { s with events := { q with entries := rest, latchedTime := e.time, lost := q.lost && !rest.isEmpty } }

/-- The minimum-free monitor is read: it takes the free count standing at the read (R43). -/
def State.rearmMinFree (s : State) : State := { s with pool := { s.pool with minFree := s.freeCount } }

/-- The frame-check error count is read: it is set to 0 (R74). -/
def State.clearFrameErrors (s : State) : State := { s with link := { s.link with frameErrors := 0 } }

/-- The side effect of a word's read: three words have one (R43, R74, R161). -/
def State.readEffect (s : State) (address : BitVec 16) : State :=
  if address = 0x340#16 then s.popEvent
  else if address = 0x301#16 then s.rearmMinFree
  else if address = 0x311#16 then s.clearFrameErrors
  else s

/-- A word of a READ transaction: the value standing at the event is shifted out, and the read's side effect takes
place (R157). -/
def State.spiRead (s : State) (address : BitVec 16) : State :=
  if s.mgmt.spi.kind = .bad then s.setSpi s.mgmt.spi.turnedAway
  else (s.setSpi (s.mgmt.spi.gave address (s.controlRead address))).readEffect address

/-- A command written at the command word (R159). -/
def State.commandWrite (s : State) (code : Byte) (p : CmdParams) : State :=
  s.spiWrite 0x330#16 (fun s1 => some (s1.takeCommand code p))

/-- A command byte that is neither READ nor WRITE (R157). -/
def State.badCommandByte (s : State) : State :=
  s.setSpi { kind := .bad, address := 0#16, refused := true, miso := [.zero, .status true] }

/-- CS_N rises: position and transaction status are cleared (R157), and MISO carries nothing (log 10). -/
def State.endTransaction (s : State) : State := s.setSpi SpiPort.reset

/-! ### Resets (R163, R165) -/

/-- The power-on values. The request channel is the interconnect's (log 3) and the reads waiting are the controller's
(log 33); the model's own fields are kept. -/
def State.powerOn (s : State) : State :=
  { State.reset with
    sp := { State.reset.sp with channel := s.sp.channel }, mgmt := { Management.reset with reads := s.mgmt.reads },
    out := s.out, choices := s.choices, pending := s.pending }

/-- The wait of a soft reset is over: no MP request outstanding, through queue and SP response queue empty (R163). -/
def State.resetWaitOver (s : State) : Bool :=
  s.softReset && s.mp.outstanding.isEmpty && s.mp.throughQueue.isEmpty && s.sp.responses.isEmpty

/-- Step 4 of a soft reset: power-on values, the SPI transaction and the command result kept, and one event RESET at
time 0 (R163). -/
def State.finishSoftReset (s : State) : State :=
  State.put { s.powerOn with mgmt := { s.powerOn.mgmt with spi := s.mgmt.spi, result := s.mgmt.result } } .reset none
    0#20

end Sys2Proof.Machine
end

