-- ==== Sys2Proof/Machine/HandshakeOps.lean ====
section
/-! DEFINITION. Handshake frames at their owner, the Stream Controller (R48, R53, R59, R62, R63, R168), and the expiry
of the handshake timer (R52). -/

namespace Sys2Proof.Machine

/-- REFUSE answers an OPEN (Table 3-7). -/
def State.refuseOpen (s : State) (f : OpenFrame) (r : Reason) : State :=
  s.request3 (.refuse f.target f.origin f.session r)

/-- OPENED answers an OPEN (Table 3-7). -/
def State.answerOpened (s : State) (f : OpenFrame) : State := s.request3 (.opened f.target f.origin f.session)

/-- An accepted OPEN (Table 3-7). -/
def State.openAccepted (f : OpenFrame) (s : State) : State :=
  let st := s.stream f.target
  if st.cfg.direction = .send then s.refuseOpen f .direction
  else if st.state = .off then s.refuseOpen f .notListening
  else if f.origin ≠ st.cfg.peer then s.refuseOpen f .peer
  else if st.cfg.sizeCode < f.sizeCode.toNat then s.refuseOpen f .size
  else if st.state = .bound ∧ f.session = st.session then s.answerOpened f
  else (s.bind f.target f.session).answerOpened f

/-- An OPENED or REFUSE concerns its target: a SEND stream in OPENING, of matching session (R53). -/
def Stream.awaitsOpened (st : Stream) (ses : Session) : Bool :=
  (st.cfg.direction == .send) && (st.state == .opening) && (st.session == ses)

/-- An accepted OPENED (R53). -/
def State.openedAccepted (f : HandshakeFrame) (s : State) : State :=
  let st := s.stream f.target
  if st.awaitsOpened f.session then
    (s.modStream f.target (fun st => { st.clearHandshake with retryCount := 0 })).changeState f.target
      (if st.dirty = [] then .active else .resync) .opened .none
  else s

/-- The reason of a REFUSE: codes 1 to 4 (R168). -/
def refuseReason (code : Byte) : Option Reason :=
  match code.toNat with
  | 1 => some .notListening
  | 2 => some .direction
  | 3 => some .size
  | 4 => some .peer
  | _ => none

/-- An accepted REFUSE (R53, R168). -/
def State.refuseAccepted (f : RefuseFrame) (s : State) : State :=
  match refuseReason f.reason with
  | none => s
  | some r => if (s.stream f.target).awaitsOpened f.session then s.toDegraded f.target .peerRefused r else s

/-- CLOSED answers a CLOSE (R63). -/
def State.answerClosed (s : State) (f : HandshakeFrame) : State := s.request3 (.closed f.target f.origin f.session)

/-- An accepted CLOSE (R63). -/
def State.closeAccepted (f : HandshakeFrame) (s : State) : State :=
  let st := s.stream f.target
  if st.cfg.direction = .receive ∧ f.session = st.session then
    match st.state with
    | .bound => (s.leaveBound f.target .listen .peerClose .none).answerClosed f
    | .listen => s.answerClosed f
    | _ => s
  else s

/-- An accepted CLOSED: one that arrives before the CLOSE has been transmitted is discarded (R59). -/
def State.closedAccepted (f : HandshakeFrame) (s : State) : State :=
  let st := s.stream f.target
  if st.cfg.direction = .send ∧ st.state = .closing ∧ f.session = st.session ∧ st.closeSent = true then
    s.closingToOff f.target .closed .none
  else s

/-- The handshake timer of a stream expires: at the retry limit the stream leaves the state, else the frame is due
again (R52). -/
def State.handshakeExpired (s : State) (i : StreamId) : State :=
  let n := (s.stream i).retryCount + 1
  let s1 := s.modStream i (fun st => { st with retryCount := n, handshakeTimer := none })
  if (s.stream i).cfg.retryLimit ≤ n then
    match (s.stream i).state with
    | .opening => s1.toDegraded i .openTimeout .none
    | .closing => s1.closingToOff i .closeTimeout .none
    | _ => s1
  else s1.modStream i (fun st => { st with handshakeDue := true })

end Sys2Proof.Machine
end

