-- ==== Sys2Proof/Machine/SystemPort.lean ====
section
/-! DEFINITION. Meanings of the System Port, Record Pool and Gate Unit rows: HEAD_TAKING, SP_RESPONSE_DELIVERY,
SLOT_WAIT_TIMER_EXPIRY, COMBINE_DEADLINE_EXPIRY, HOLD_DEADLINE_EXPIRY. -/

namespace Sys2Proof.Machine

/-- A request joins the request channel (R2). -/
def State.joinChannel (r : SpRequest) (s : State) : State :=
  { s with sp := { s.sp with channel := s.sp.channel ++ [r] } }

/-- HEAD_TAKING (R2): the request joins the channel, and heads are classified and taken, or wait. While RESET_N is
asserted no request is taken. -/
def execHeadTaking (r : SpRequest) (s : State) : Host.Outcome State Fault Refusal :=
  if r.wf then .next (settle (s.joinChannel r)) else .fault .byteCountOutOfRange

/-- The oldest queued response is delivered (R1, log 8). -/
def State.deliverResponse (s : State) : State :=
  match s.sp.responses with
  | [] => s
  | x :: rest => { s with sp := { s.sp with responses := rest }, out := { s.out with spResponse := some x } }

/-- SP_RESPONSE_DELIVERY (R1). -/
def execSpResponseDelivery (s : State) : Host.Outcome State Fault Refusal := happen State.deliverResponse s

/-- An expiry of a timer with its effect: it acts while the timer runs and no soft reset is in progress (R164, log
2). -/
def expiry (running : State → Bool) (f : State → State) : State → Host.Outcome State Fault Refusal :=
  happen (fun s => if running s && !s.softReset then f s else s)

/-- SLOT_WAIT_TIMER_EXPIRY (R13). -/
def execSlotWaitTimerExpiry (s : State) : Host.Outcome State Fault Refusal :=
  expiry (fun s => s.sp.slotWait.isSome) State.slotWaitExpired s

/-- The running combine deadline of a stream is removed (R33). -/
def State.combineExpired (s : State) (i : StreamId) : State :=
  s.modStream i (fun st => { st with sendList := st.sendList.map Record.noDeadline })

/-- COMBINE_DEADLINE_EXPIRY (R33). -/
def execCombineDeadlineExpiry (i : StreamId) (s : State) : Host.Outcome State Fault Refusal :=
  expiry (fun s => (s.stream i).sendList.any (fun r => r.deadline.isSome)) (fun s => s.combineExpired i) s

/-- A held write times out (R120). -/
def State.holdExpired (s : State) (k : Fin 4) : State :=
  match s.hold k with
  | none => s
  | some h => (s.answerHold k).put .gateTimeout (some h.stream) ((s.stream h.stream).cfg.lineIndex h.addr)

/-- HOLD_DEADLINE_EXPIRY (R120). -/
def execHoldDeadlineExpiry (k : Fin 4) (s : State) : Host.Outcome State Fault Refusal :=
  expiry (fun s => (s.hold k).isSome) (fun s => s.holdExpired k) s

end Sys2Proof.Machine
end

