-- ==== Sys2Proof/Machine/MemoryPort.lean ====
section
/-! DEFINITION. Meanings of the Memory Port rows: MP_GRANT, MP_RESPONSE. -/

namespace Sys2Proof.Machine

/-- MP_GRANT (R151): one grant, if a side waits. -/
def execMpGrant (s : State) : Host.Outcome State Fault Refusal := happen State.mpGrant s

/-- MP_RESPONSE (R155). -/
def execMpResponse (t : MpTag) (st : Status) (d : LineBytes) (s : State) : Host.Outcome State Fault Refusal :=
  happen (fun s => s.mpResponse t st d) s

end Sys2Proof.Machine
end

