-- ==== Sys2Proof/Machine/Arrivals.lean ====
section
/-! DEFINITION. Meanings of the Partner Link rows: TRANSMIT_GRANT and the thirteen arrivals (R73, Table 4-5). -/

namespace Sys2Proof.Machine

/-- TRANSMIT_GRANT (R82): one grant of the link transmit arbiter. -/
def execTransmitGrant (s : State) : Host.Outcome State Fault Refusal := happen State.transmitGrant s

/-- HELLO_ARRIVAL (R70, R71, R72, R73). -/
def execHelloArrival (f : HelloFrame) (s : State) : Host.Outcome State Fault Refusal :=
  happen (fun s => s.helloArrives f) s

/-- REC_ARRIVAL (R100, R167). -/
def execRecArrival (f : RecFrame) (s : State) : Host.Outcome State Fault Refusal :=
  happen (fun s => s.frameArrives f.number (State.recAccepted f)) s

/-- ACK_ARRIVAL (R81, R87). -/
def execAckArrival (f : AckFrame) (s : State) : Host.Outcome State Fault Refusal :=
  happen (fun s => s.frameArrives f.number (fun s => s.creditReturn f.credit (State.ackAccepted f))) s

/-- NAK_ARRIVAL (R81, R89, R90). -/
def execNakArrival (f : NakFrame) (s : State) : Host.Outcome State Fault Refusal :=
  happen (fun s => s.frameArrives f.number (fun s => s.creditReturn f.credit (State.nakAccepted f))) s

/-- OPEN_ARRIVAL (R62). -/
def execOpenArrival (f : OpenFrame) (s : State) : Host.Outcome State Fault Refusal :=
  happen (fun s => s.frameArrives f.number (State.openAccepted f)) s

/-- OPENED_ARRIVAL (R53). -/
def execOpenedArrival (f : HandshakeFrame) (s : State) : Host.Outcome State Fault Refusal :=
  happen (fun s => s.frameArrives f.number (State.openedAccepted f)) s

/-- REFUSE_ARRIVAL (R53). -/
def execRefuseArrival (f : RefuseFrame) (s : State) : Host.Outcome State Fault Refusal :=
  happen (fun s => s.frameArrives f.number (State.refuseAccepted f)) s

/-- CLOSE_ARRIVAL (R63). -/
def execCloseArrival (f : HandshakeFrame) (s : State) : Host.Outcome State Fault Refusal :=
  happen (fun s => s.frameArrives f.number (State.closeAccepted f)) s

/-- CLOSED_ARRIVAL (R59). -/
def execClosedArrival (f : HandshakeFrame) (s : State) : Host.Outcome State Fault Refusal :=
  happen (fun s => s.frameArrives f.number (State.closedAccepted f)) s

/-- DGQ_ARRIVAL (R145). -/
def execDgqArrival (f : DgqFrame) (s : State) : Host.Outcome State Fault Refusal :=
  happen (fun s => s.frameArrives f.number (State.dgqAccepted f)) s

/-- DGR_ARRIVAL (R143). -/
def execDgrArrival (f : DgrFrame) (s : State) : Host.Outcome State Fault Refusal :=
  happen (fun s => s.frameArrives f.number (State.dgrAccepted f)) s

/-- BAD_FRAME_ARRIVAL (R73, R74, R166). -/
def execBadFrameArrival (s : State) : Host.Outcome State Fault Refusal := happen State.badFrame s

/-- UNKNOWN_KIND_ARRIVAL (R73, R166). -/
def execUnknownKindArrival (kind : Byte) (s : State) : Host.Outcome State Fault Refusal :=
  if isFrameKind kind then .fault .kindIsKnown else happen State.unknownKind s

end Sys2Proof.Machine
end

