-- ==== Sys2Proof/Machine/Timers.lean ====
section
/-! DEFINITION. Meanings of the link, stream, receive and audit timer rows. An expiry acts while its timer runs and no
soft reset is in progress (R164, log 2). -/

namespace Sys2Proof.Machine

/-- The HELLO timer in TRAINING: a further HELLO is requested and the timer restarts (R69). -/
def State.helloExpired (s : State) : State :=
  State.requestHello { s with link := { s.link with helloTimer := s.startTimer 10 } }

/-- HELLO_TIMER_EXPIRY (R69). -/
def execHelloTimerExpiry (s : State) : Host.Outcome State Fault Refusal :=
  expiry (fun s => s.link.state == .training && s.link.helloTimer.isSome) State.helloExpired s

/-- TRAINING_TIMER_EXPIRY (R71). -/
def execTrainingTimerExpiry (s : State) : Host.Outcome State Fault Refusal :=
  expiry (fun s => s.link.state == .training && s.link.trainingTimer.isSome) State.trainingFailed s

/-- DOWN_RETRY_EXPIRY (R71). -/
def execDownRetryExpiry (s : State) : Host.Outcome State Fault Refusal :=
  expiry (fun s => s.link.state == .down && s.link.downTimer.isSome) State.enterTraining s

/-- The keepalive timer: a HELLO is requested (R76). -/
def State.keepaliveExpired (s : State) : State :=
  State.requestHello { s with link := { s.link with keepaliveTimer := none } }

/-- KEEPALIVE_TIMER_EXPIRY (R76). -/
def execKeepaliveTimerExpiry (s : State) : Host.Outcome State Fault Refusal :=
  expiry (fun s => s.link.state == .up && s.link.keepaliveTimer.isSome) State.keepaliveExpired s

/-- SILENCE_TIMER_EXPIRY (R77). -/
def execSilenceTimerExpiry (s : State) : Host.Outcome State Fault Refusal :=
  expiry (fun s => s.link.state == .up && s.link.silenceTimer.isSome) (fun s => s.retrain .silence) s

/-- HANDSHAKE_TIMER_EXPIRY (R52). -/
def execHandshakeTimerExpiry (i : StreamId) (s : State) : Host.Outcome State Fault Refusal :=
  expiry (fun s => (s.stream i).handshakeTimer.isSome) (fun s => s.handshakeExpired i) s

/-- RETRANSMIT_TIMER_EXPIRY (R92). -/
def execRetransmitTimerExpiry (i : StreamId) (s : State) : Host.Outcome State Fault Refusal :=
  expiry (fun s => (s.stream i).retransmitTimer.isSome) (fun s => s.retransmitExpired i) s

/-- The ack delay timer of a stream: an ACK is owed if none is (R109). -/
def State.ackDelayExpired (s : State) (i : StreamId) : State :=
  s.modStream i (fun st => { st with ackDelayTimer := none, ackCount := if st.ackCount = 0 then 1 else st.ackCount })

/-- ACK_DELAY_TIMER_EXPIRY (R109). -/
def execAckDelayTimerExpiry (i : StreamId) (s : State) : Host.Outcome State Fault Refusal :=
  expiry (fun s => (s.stream i).ackDelayTimer.isSome) (fun s => s.ackDelayExpired i) s

/-- RESPONSE_TIMER_EXPIRY (R144): in WAITING. -/
def execResponseTimerExpiry (s : State) : Host.Outcome State Fault Refusal :=
  expiry (fun s => s.audit.initiator.state == .waiting && s.audit.initiator.timer.isSome) State.responseExpired s

/-- RESPONDER_TIMER_EXPIRY (R146). -/
def execResponderTimerExpiry (s : State) : Host.Outcome State Fault Refusal :=
  expiry (fun s => s.audit.responder.state == .armed && s.audit.responder.timer.isSome) State.responderExpired s

end Sys2Proof.Machine
end

