-- ==== Sys2Proof/Machine/Commands.lean ====
section
/-! DEFINITION. Meanings of the command-word rows: each is a write of the command word with the row's code (R159,
Table 12-8). -/

namespace Sys2Proof.Machine

/-- OPEN (R50, R51). -/
def execOpenStream (p : CmdParams) (s : State) : Host.Outcome State Fault Refusal :=
  happen (fun s => s.commandWrite 0x01#8 p) s

/-- OPEN_CLEAN (R50, R51). -/
def execOpenClean (p : CmdParams) (s : State) : Host.Outcome State Fault Refusal :=
  happen (fun s => s.commandWrite 0x02#8 p) s

/-- REOPEN (R50, R57). -/
def execReopen (p : CmdParams) (s : State) : Host.Outcome State Fault Refusal :=
  happen (fun s => s.commandWrite 0x03#8 p) s

/-- CLOSE (R50, R58). -/
def execClose (p : CmdParams) (s : State) : Host.Outcome State Fault Refusal :=
  happen (fun s => s.commandWrite 0x04#8 p) s

/-- RESET_STREAM (R50, R60, R64). -/
def execResetStream (p : CmdParams) (s : State) : Host.Outcome State Fault Refusal :=
  happen (fun s => s.commandWrite 0x05#8 p) s

/-- LISTEN (R50, R61). -/
def execListen (p : CmdParams) (s : State) : Host.Outcome State Fault Refusal :=
  happen (fun s => s.commandWrite 0x06#8 p) s

/-- LINK_ENABLE (R67). -/
def execLinkEnable (p : CmdParams) (s : State) : Host.Outcome State Fault Refusal :=
  happen (fun s => s.commandWrite 0x10#8 p) s

/-- LINK_DISABLE (R67, R79). -/
def execLinkDisable (p : CmdParams) (s : State) : Host.Outcome State Fault Refusal :=
  happen (fun s => s.commandWrite 0x11#8 p) s

/-- LINK_RETRAIN (R67, R78). -/
def execLinkRetrain (p : CmdParams) (s : State) : Host.Outcome State Fault Refusal :=
  happen (fun s => s.commandWrite 0x12#8 p) s

/-- AUDIT_START (R140). -/
def execAuditStart (p : CmdParams) (s : State) : Host.Outcome State Fault Refusal :=
  happen (fun s => s.commandWrite 0x20#8 p) s

/-- AUDIT_ABORT (R144). -/
def execAuditAbort (p : CmdParams) (s : State) : Host.Outcome State Fault Refusal :=
  happen (fun s => s.commandWrite 0x21#8 p) s

/-- SOFT_RESET (R163). -/
def execSoftReset (p : CmdParams) (s : State) : Host.Outcome State Fault Refusal :=
  happen (fun s => s.commandWrite 0x5A#8 p) s

/-- UNKNOWN_COMMAND (R159): any code; one that names a command is that command (log 32). -/
def execUnknownCommand (code : Byte) (p : CmdParams) (s : State) : Host.Outcome State Fault Refusal :=
  happen (fun s => s.commandWrite code p) s

end Sys2Proof.Machine
end

