-- ==== Sys2Proof/Machine/Control.lean ====
section
/-! DEFINITION. Meanings of the Management Port rows (reads with a side effect, writes, SPI) and of the reset rows. -/

namespace Sys2Proof.Machine

/-- EVENT_POP: a read of the pop word, 0340H (R157, R161). -/
def execEventPop (s : State) : Host.Outcome State Fault Refusal :=
  happen (fun s => s.spiRead 0x340#16) s

/-- MINIMUM_FREE_READ: a read of word 0301H (R43). -/
def execMinimumFreeRead (s : State) : Host.Outcome State Fault Refusal :=
  happen (fun s => s.spiRead 0x301#16) s

/-- FRAME_CHECK_ERROR_COUNT_READ: a read of word 0311H (R74). -/
def execFrameCheckErrorCountRead (s : State) : Host.Outcome State Fault Refusal :=
  happen (fun s => s.spiRead 0x311#16) s

/-- The address of a window word (Table 12-4). -/
def windowAddress (n : Fin 16) (offset : Fin 4) : BitVec 16 := BitVec.ofNat 16 (0x100 + 4 * n.val + offset.val)

/-- WINDOW_ENTRY_WRITE (R7, R8). -/
def execWindowEntryWrite (n : Fin 16) (offset : Fin 4) (w : Word32) (s : State) : Host.Outcome State Fault Refusal :=
  happen (fun s => s.spiWrite (windowAddress n offset) (fun s => s.writeWindow n offset.val w)) s

/-- The address of a stream word (Table 12-4). -/
def streamAddress (i : StreamId) (offset : Fin 16) : BitVec 16 := BitVec.ofNat 16 (0x200 + 16 * i.val + offset.val)

/-- STREAM_CONFIG_WRITE (R35, R46). -/
def execStreamConfigWrite (i : StreamId) (offset : Fin 16) (w : Word32) (s : State) :
    Host.Outcome State Fault Refusal :=
  happen (fun s => s.spiWrite (streamAddress i offset) (fun s => s.writeStream i offset.val w)) s

/-- POOL_LOW_THRESHOLD_WRITE: a write of word 0010H (R42, log 13). -/
def execPoolLowThresholdWrite (w : Word32) (s : State) : Host.Outcome State Fault Refusal :=
  happen (fun s => s.spiWrite 0x10#16 (fun s => s.writeThreshold w)) s

/-- ALERT_ENABLE_WRITE: a write of word 0010H (R162, log 13). -/
def execAlertEnableWrite (w : Word32) (s : State) : Host.Outcome State Fault Refusal :=
  happen (fun s => s.spiWrite 0x10#16 (fun s => s.writeThreshold w)) s

/-- CONTROL_WORD_WRITE: a write of any control-space word (R158). -/
def execControlWordWrite (a : BitVec 16) (w : Word32) (s : State) : Host.Outcome State Fault Refusal :=
  happen (fun s => s.spiWrite a (fun s => s.controlWrite a w)) s

/-- SPI_BAD_COMMAND_BYTE (R157). -/
def execSpiBadCommandByte (s : State) : Host.Outcome State Fault Refusal := happen State.badCommandByte s

/-- CS_N_RISING (R157). -/
def execCsNRising (s : State) : Host.Outcome State Fault Refusal := happen State.endTransaction s

/-- A read of any control-space word, outside the rows of the table (R157, R158, log 33). -/
def readControlWord (a : BitVec 16) (s : State) : Host.Outcome State Fault Refusal := happen (fun s => s.spiRead a) s

/-- One microsecond passes: the time counter rises (R160, log 1, log 31). -/
def State.tick (s : State) : State :=
  if s.resetAsserted then s else { s with events := { s.events with time := s.events.time + 1 } }

/-- The step of an empty queue: the read that waits first is made, or one microsecond passes (log 1, log 33). -/
def State.idleStep (s : State) : Host.Outcome State Fault Refusal :=
  match s.mgmt.reads with
  | [] => .next s.tick
  | a :: rest => readControlWord a { s with mgmt := { s.mgmt with reads := rest } }

/-- SOFT_RESET_COMPLETION (R163, log 11): steps 4 and 5, once the wait is over. -/
def execSoftResetCompletion (s : State) : Host.Outcome State Fault Refusal :=
  happen (fun s => if s.resetWaitOver then s.finishSoftReset else s) s

/-- RESET_N_ASSERT (R165): from this event nothing is taken, issued or sent, and MISO is undriven (R157). -/
def execResetNAssert (s : State) : Host.Outcome State Fault Refusal :=
  happen (fun s => { s.setSpi { s.mgmt.spi with miso := [] } with resetAsserted := true }) s

/-- RESET_N_RELEASE (R165): the power-on values, without an event; the head is then classified. -/
def execResetNRelease (s : State) : Host.Outcome State Fault Refusal :=
  if s.resetAsserted then .next (settle s.powerOn) else .next s

end Sys2Proof.Machine
end

