-- ==== Sys2Proof/Machine/Dispatch.lean ====
section
/-! DEFINITION. One arm per command of the opcode table. -/

namespace Sys2Proof.Machine

def exec (i : Instr) (s : State) : Host.Outcome State Fault Refusal :=
  match i with
  | .headTaking r => Sys2Proof.Machine.execHeadTaking r s
  | .spResponseDelivery => Sys2Proof.Machine.execSpResponseDelivery s
  | .slotWaitTimerExpiry => Sys2Proof.Machine.execSlotWaitTimerExpiry s
  | .combineDeadlineExpiry x => Sys2Proof.Machine.execCombineDeadlineExpiry x s
  | .holdDeadlineExpiry k => Sys2Proof.Machine.execHoldDeadlineExpiry k s
  | .mpGrant => Sys2Proof.Machine.execMpGrant s
  | .mpResponse t st d => Sys2Proof.Machine.execMpResponse t st d s
  | .transmitGrant => Sys2Proof.Machine.execTransmitGrant s
  | .helloArrival f => Sys2Proof.Machine.execHelloArrival f s
  | .recArrival f => Sys2Proof.Machine.execRecArrival f s
  | .ackArrival f => Sys2Proof.Machine.execAckArrival f s
  | .nakArrival f => Sys2Proof.Machine.execNakArrival f s
  | .openArrival f => Sys2Proof.Machine.execOpenArrival f s
  | .openedArrival f => Sys2Proof.Machine.execOpenedArrival f s
  | .refuseArrival f => Sys2Proof.Machine.execRefuseArrival f s
  | .closeArrival f => Sys2Proof.Machine.execCloseArrival f s
  | .closedArrival f => Sys2Proof.Machine.execClosedArrival f s
  | .dgqArrival f => Sys2Proof.Machine.execDgqArrival f s
  | .dgrArrival f => Sys2Proof.Machine.execDgrArrival f s
  | .badFrameArrival => Sys2Proof.Machine.execBadFrameArrival s
  | .unknownKindArrival k => Sys2Proof.Machine.execUnknownKindArrival k s
  | .helloTimerExpiry => Sys2Proof.Machine.execHelloTimerExpiry s
  | .trainingTimerExpiry => Sys2Proof.Machine.execTrainingTimerExpiry s
  | .downRetryExpiry => Sys2Proof.Machine.execDownRetryExpiry s
  | .keepaliveTimerExpiry => Sys2Proof.Machine.execKeepaliveTimerExpiry s
  | .silenceTimerExpiry => Sys2Proof.Machine.execSilenceTimerExpiry s
  | .handshakeTimerExpiry x => Sys2Proof.Machine.execHandshakeTimerExpiry x s
  | .retransmitTimerExpiry x => Sys2Proof.Machine.execRetransmitTimerExpiry x s
  | .ackDelayTimerExpiry x => Sys2Proof.Machine.execAckDelayTimerExpiry x s
  | .responseTimerExpiry => Sys2Proof.Machine.execResponseTimerExpiry s
  | .responderTimerExpiry => Sys2Proof.Machine.execResponderTimerExpiry s
  | .openStream p => Sys2Proof.Machine.execOpenStream p s
  | .openClean p => Sys2Proof.Machine.execOpenClean p s
  | .reopen p => Sys2Proof.Machine.execReopen p s
  | .close p => Sys2Proof.Machine.execClose p s
  | .resetStream p => Sys2Proof.Machine.execResetStream p s
  | .listen p => Sys2Proof.Machine.execListen p s
  | .linkEnable p => Sys2Proof.Machine.execLinkEnable p s
  | .linkDisable p => Sys2Proof.Machine.execLinkDisable p s
  | .linkRetrain p => Sys2Proof.Machine.execLinkRetrain p s
  | .auditStart p => Sys2Proof.Machine.execAuditStart p s
  | .auditAbort p => Sys2Proof.Machine.execAuditAbort p s
  | .softReset p => Sys2Proof.Machine.execSoftReset p s
  | .unknownCommand code p => Sys2Proof.Machine.execUnknownCommand code p s
  | .softResetCompletion => Sys2Proof.Machine.execSoftResetCompletion s
  | .eventPop => Sys2Proof.Machine.execEventPop s
  | .minimumFreeRead => Sys2Proof.Machine.execMinimumFreeRead s
  | .frameCheckErrorCountRead => Sys2Proof.Machine.execFrameCheckErrorCountRead s
  | .windowEntryWrite n o w => Sys2Proof.Machine.execWindowEntryWrite n o w s
  | .streamConfigWrite x o w => Sys2Proof.Machine.execStreamConfigWrite x o w s
  | .poolLowThresholdWrite w => Sys2Proof.Machine.execPoolLowThresholdWrite w s
  | .alertEnableWrite w => Sys2Proof.Machine.execAlertEnableWrite w s
  | .controlWordWrite a w => Sys2Proof.Machine.execControlWordWrite a w s
  | .spiBadCommandByte => Sys2Proof.Machine.execSpiBadCommandByte s
  | .resetNAssert => Sys2Proof.Machine.execResetNAssert s
  | .resetNRelease => Sys2Proof.Machine.execResetNRelease s
  | .csNRising => Sys2Proof.Machine.execCsNRising s

end Sys2Proof.Machine
end

