-- ==== Sys2Proof/Machine/Frames.lean ====
section
/-! DEFINITION. Frame formats: the bytes of every frame as transmitted, and the arrival that received bytes make
(section 12.1, R74, R166). -/

namespace Sys2Proof.Machine

/-! ### Fields as bytes, most significant byte first -/

def be16 (v : BitVec 16) : List Byte := [v.extractLsb' 8 8, v.extractLsb' 0 8]

def be24 (v : BitVec 24) : List Byte := [v.extractLsb' 16 8, v.extractLsb' 8 8, v.extractLsb' 0 8]

def be32 (v : BitVec 32) : List Byte :=
  [v.extractLsb' 24 8, v.extractLsb' 16 8, v.extractLsb' 8 8, v.extractLsb' 0 8]

def be64 (v : BitVec 64) : List Byte := be32 (v.extractLsb' 32 32) ++ be32 (v.extractLsb' 0 32)

/-- The byte at an offset of a frame. -/
def at8 (bs : List Byte) (n : Nat) : Byte := bs.getD n 0#8

def at16 (bs : List Byte) (n : Nat) : BitVec 16 := at8 bs n ++ at8 bs (n + 1)

def at24 (bs : List Byte) (n : Nat) : BitVec 24 := at8 bs n ++ at16 bs (n + 1)

def at32 (bs : List Byte) (n : Nat) : BitVec 32 := at16 bs n ++ at16 bs (n + 2)

def at64 (bs : List Byte) (n : Nat) : BitVec 64 := at32 bs n ++ at32 bs (n + 4)

/-- The streams byte: target in bits 6 to 4, origin in bits 2 to 0. -/
def streamsByte (target origin : StreamId) : Byte := BitVec.ofNat 8 (16 * target.val + origin.val)

/-- The target of a streams byte; bit 7 is ignored (R166). -/
def targetOf (b : Byte) : StreamId := Fin.ofNat 8 (b.toNat / 16)

/-- The origin of a streams byte; bit 3 is ignored (R166). -/
def originOf (b : Byte) : StreamId := Fin.ofNat 8 b.toNat

/-- The HELLO flags byte: bit 0 sender state, bit 1 heard. -/
def flagsByte (senderUp heard : Bool) : Byte :=
  (if senderUp then 1#8 else 0#8) ||| (if heard then 2#8 else 0#8)

end Sys2Proof.Machine

namespace Sys2Proof

open Machine

/-! ### Transmission (Tables 12-1 and 12-2) -/

/-- The kind code (Table 12-1). -/
def Frame.kindCode : Frame → Byte
  | .hello _ => 0x01#8
  | .record _ => 0x02#8
  | .ack _ => 0x03#8
  | .nak _ => 0x04#8
  | .openStream _ => 0x05#8
  | .opened _ => 0x06#8
  | .refuse _ => 0x07#8
  | .close _ => 0x08#8
  | .closed _ => 0x09#8
  | .dgq _ => 0x0A#8
  | .dgr _ => 0x0B#8

/-- The frame number. -/
def Frame.number : Frame → Byte
  | .hello f => f.number
  | .record f => f.number
  | .ack f => f.number
  | .nak f => f.number
  | .openStream f => f.number
  | .opened f => f.number
  | .refuse f => f.number
  | .close f => f.number
  | .closed f => f.number
  | .dgq f => f.number
  | .dgr f => f.number

/-- Bytes 2 onward, without the frame check (Table 12-2). -/
def Frame.payload : Frame → List Byte
  | .hello f => [flagsByte f.senderUp f.heard, f.count] ++ be32 f.identity
  | .record f => [streamsByte f.target f.origin, f.session] ++ be16 f.seq ++ [f.kind] ++ be24 (f.line.setWidth 24) ++
      be64 f.mask ++ f.data.toList
  | .ack f => [streamsByte f.target f.origin, f.session] ++ be16 f.seq ++ [f.credit]
  | .nak f => [streamsByte f.target f.origin, f.session, f.kind] ++ be16 f.value ++ [f.credit]
  | .openStream f => [streamsByte f.target f.origin, f.session, f.sizeCode]
  | .opened f => [streamsByte f.target f.origin, f.session]
  | .refuse f => [streamsByte f.target f.origin, f.session, f.reason]
  | .close f => [streamsByte f.target f.origin, f.session]
  | .closed f => [streamsByte f.target f.origin, f.session]
  | .dgq f => [streamsByte f.target f.origin, f.session, f.tag] ++ be24 (f.firstLine.setWidth 24) ++
      be24 (f.lineCount.setWidth 24) ++ be16 f.mark
  | .dgr f => [streamsByte f.target f.origin, f.tag, f.status, f.reason] ++ be32 f.digest

/-- Every byte that precedes the check field. -/
def Frame.body (f : Frame) : List Byte := f.kindCode :: f.number :: f.payload

/-- The frame as transmitted: the body and its CRC-32 (R74). -/
def Frame.bytes (f : Frame) : List Byte := f.body ++ be32 (crc32 f.body)

/-- The command that the arrival of a frame is. -/
def Frame.arrival : Frame → Instr
  | .hello f => .helloArrival f
  | .record f => .recArrival f
  | .ack f => .ackArrival f
  | .nak f => .nakArrival f
  | .openStream f => .openArrival f
  | .opened f => .openedArrival f
  | .refuse f => .refuseArrival f
  | .close f => .closeArrival f
  | .closed f => .closedArrival f
  | .dgq f => .dgqArrival f
  | .dgr f => .dgrArrival f

end Sys2Proof

namespace Sys2Proof.Machine

/-! ### Reception (R166) -/

/-- The length in bytes of a frame of a kind, check included (Table 12-1). -/
def frameLength (kind : Byte) : Option Nat :=
  match kind.toNat with
  | 1 => some 12 | 2 => some 86 | 3 => some 11 | 4 => some 12 | 5 => some 9 | 6 => some 8 | 7 => some 9 | 8 => some 8
  | 9 => some 8 | 10 => some 17 | 11 => some 14
  | _ => none

/-- The received check field is the CRC-32 of the bytes before it (R74). -/
def frameChecks (bs : List Byte) : Bool := at32 bs (bs.length - 4) == crc32 (bs.take (bs.length - 4))

/-- The fields of an OPENED, CLOSE or CLOSED frame. -/
def handshakeFields (bs : List Byte) : HandshakeFrame :=
  { number := at8 bs 1, target := targetOf (at8 bs 2), origin := originOf (at8 bs 2), session := at8 bs 3 }

/-- The fields of a frame of a kind of Table 12-1, read from its bytes (Table 12-2); bits left unnamed are ignored
(R166). -/
def frameFields (bs : List Byte) : Option Frame :=
  let n := at8 bs 1
  let t := targetOf (at8 bs 2)
  let o := originOf (at8 bs 2)
  match (at8 bs 0).toNat with
  | 1 => some (.hello { number := n, senderUp := (at8 bs 2).getLsbD 0, heard := (at8 bs 2).getLsbD 1,
                        count := at8 bs 3, identity := at32 bs 4 })
  | 2 => some (.record { number := n, target := t, origin := o, session := at8 bs 3, seq := at16 bs 4,
                         kind := at8 bs 6, line := (at24 bs 7).setWidth 20, mask := at64 bs 10,
                         data := lineBytes (fun k => at8 bs (18 + k)) })
  | 3 => some (.ack { number := n, target := t, origin := o, session := at8 bs 3, seq := at16 bs 4,
                      credit := at8 bs 6 })
  | 4 => some (.nak { number := n, target := t, origin := o, session := at8 bs 3, kind := at8 bs 4,
                      value := at16 bs 5, credit := at8 bs 7 })
  | 5 => some (.openStream { number := n, target := t, origin := o, session := at8 bs 3, sizeCode := at8 bs 4 })
  | 6 => some (.opened (handshakeFields bs))
  | 7 => some (.refuse { number := n, target := t, origin := o, session := at8 bs 3, reason := at8 bs 4 })
  | 8 => some (.close (handshakeFields bs))
  | 9 => some (.closed (handshakeFields bs))
  | 10 => some (.dgq { number := n, target := t, origin := o, session := at8 bs 3, tag := at8 bs 4,
                       firstLine := (at24 bs 5).setWidth 20, lineCount := (at24 bs 8).setWidth 21,
                       mark := at16 bs 11 })
  | 11 => some (.dgr { number := n, target := t, origin := o, tag := at8 bs 3, status := at8 bs 4,
                       reason := at8 bs 5, digest := at32 bs 6 })
  | _ => none

/-- The arrival that received bytes make (R166): a wrong length for the kind, an unknown kind shorter than 8 bytes, or
a wrong check is a bad frame; an unknown kind that passes the check meets row 2 of Table 4-4. -/
def receive (bs : List Byte) : Instr :=
  match frameLength (at8 bs 0) with
  | none => if bs.length < 8 ∨ frameChecks bs = false then .badFrameArrival else .unknownKindArrival (at8 bs 0)
  | some n =>
    if bs.length ≠ n ∨ frameChecks bs = false then .badFrameArrival
    else
      match frameFields bs with
      | some f => f.arrival
      | none => .badFrameArrival

end Sys2Proof.Machine
end

