-- ==== Sys2Proof/Safety.lean ====
section
/-! DEFINITION. What every run keeps (the invariants of the part), and the conditions and kinds of command that the
statements name. -/

namespace Sys2Proof.Machine

/-! ### Conditions on a state -/

/-- No reset is under way. -/
def State.live (s : State) : Prop := s.resetAsserted = false ∧ s.softReset = false

/-- The Management Port takes a word: RESET_N is released and the transaction has no bad command byte (R157). -/
def State.portOpen (s : State) : Prop := s.resetAsserted = false ∧ s.mgmt.spi.kind ≠ .bad

/-- A word's write is checked and can take effect: no reset is under way, and no bad command byte (R157, R158). -/
def State.writable (s : State) : Prop := s.live ∧ s.mgmt.spi.kind ≠ .bad

/-- The state at the completion of a word's write, the word itself not yet acted on: the SPI port has taken it. -/
def State.afterWord (s : State) (address : BitVec 16) : State := s.setSpi (s.mgmt.spi.wrote address false)

/-- A refused write: the port takes the word and the transaction status is REFUSED; nothing else changes (R158). -/
def State.afterRefusal (s : State) (address : BitVec 16) : State := s.setSpi (s.mgmt.spi.wrote address true)

/-- The state at a word's read, before its side effect: the port has taken it, and its value is shifted out. -/
def State.afterRead (s : State) (address : BitVec 16) (value : Word32) : State :=
  s.setSpi (s.mgmt.spi.gave address value)

/-- The Management Port after a command write with its result (R159). -/
def State.afterCommand (s : State) (code : Byte) (p : CmdParams) (o : CommandOutcome) : Management :=
  { s.mgmt with
    spi := s.mgmt.spi.wrote 0x330#16 false, commandWord := CmdParams.word code p
    result := { outcome := o, code := code, stream := p.stream } }

/-- A frame of this number is accepted: the link is UP, it carries the expected number, no reset (R73). -/
def State.accepts (s : State) (number : Byte) : Prop := s.live ∧ s.link.state = .up ∧ number = s.link.rxNumber

/-- The state at a frame's acceptance, before its owner examines it: the silence timer restarted, the expected number
risen, confirmed set (R73). -/
def State.atAcceptance (s : State) : State := s.startSilence.acceptFrame

/-! ### The end of an event -/

/-- No entry of the Apply Queue is left that the end of an event would pass or retire (R103, R106). -/
def State.applyRest (s : State) : Prop :=
  s.passEntries s.apply.queue = s.apply.queue ∧ ∀ e rest, s.apply.queue = e :: rest → e.isDone = false

/-- What the end of every event leaves: no STREAM_STATE entry owed, no Apply Queue entry to pass or retire, and no
stream that a service search would serve. -/
def State.settled (s : State) : Prop := s.owed = [] ∧ s.applyRest ∧ s.serviceSearch = s

/-- Outside a reset every step leaves the state settled (log 4). -/
def State.settledWhenLive (s : State) : Prop := s.live → s.settled

/-- The link is unchanged but for the requests standing at its arbiter. -/
def State.sameLinkButRequests (s t : State) : Prop :=
  t.link = { s.link with class2 := t.link.class2, class3 := t.link.class3, class4 := t.link.class4 }

/-- The System Port takes a new request at once: no reset, nothing left from the last event, nothing in the request
channel before it. -/
def State.headReady (s : State) (r : SpRequest) : Prop :=
  s.live ∧ s.settled ∧ s.sp.channel = [] ∧ r.wf = true ∧ s.tagOutstanding r.tag = false

/-- The request reaches classification by window and stream state (Table 1-2, row 6). -/
def State.headClassified (s : State) (r : SpRequest) : Prop :=
  s.headReady r ∧ r.crossesLine = false ∧ r.emptyWrite = false ∧ s.heldLine (lineOf r.addr) = false

/-- The request is a write that is classified, its window of a kind other than PASS, for a stream. -/
def State.headInWindow (s : State) (r : SpRequest) (k : WindowKind) (i : StreamId) : Prop :=
  s.headClassified r ∧ r.isWrite = true ∧ ∃ w, s.windowOf r.addr = some w ∧ w.kind = k ∧ w.stream = i

/-! ### Invariants -/

/-- The slots of every stream's send list. -/
def State.usedSlots (s : State) : List Nat := allStreams.flatMap (fun i => (s.stream i).sendList.map Record.slot)

/-- R21: each of the 512 record slots is either in the free list or in exactly one send list, once. -/
def State.poolPartitioned (s : State) : Prop :=
  (s.pool.freeList ++ s.usedSlots).Nodup ∧ ∀ n, n ∈ s.pool.freeList ++ s.usedSlots ↔ n < 512

/-- R80: the credit counter is zero in every link state but UP, and never exceeds the last advert, at most 32. -/
def State.creditsBounded (s : State) : Prop :=
  (s.link.state ≠ .up → s.link.credits = 0) ∧ s.link.credits ≤ s.link.lastAdvert ∧ s.link.lastAdvert ≤ 32

/-- R97, R105, R160: the Apply Queue, the pending credits and the Event Queue hold at most 32. -/
def State.queuesBounded (s : State) : Prop :=
  s.apply.queue.length ≤ 32 ∧ s.apply.pendingCredits ≤ 32 ∧ s.events.entries.length ≤ 32

/-- R17: the held-line set never holds the same line twice. -/
def State.heldLinesDistinct (s : State) : Prop :=
  ∀ j k g h, s.hold j = some g → s.hold k = some h → j ≠ k → lineOf g.addr ≠ lineOf h.addr

/-! ### Kinds of command -/

/-- The control-space address that a command writes. -/
def writeAddress : Instr → Option (BitVec 16)
  | .openStream _ | .openClean _ | .reopen _ | .close _ | .resetStream _ | .listen _ | .linkEnable _ | .linkDisable _
  | .linkRetrain _ | .auditStart _ | .auditAbort _ | .softReset _ | .unknownCommand _ _ => some 0x330#16
  | .windowEntryWrite n o _ => some (windowAddress n o)
  | .streamConfigWrite i o _ => some (streamAddress i o)
  | .poolLowThresholdWrite _ | .alertEnableWrite _ => some 0x10#16
  | .controlWordWrite a _ => some a
  | _ => none

/-- The expiries, which no soft reset takes (R164). -/
def isExpiry : Instr → Bool
  | .slotWaitTimerExpiry | .combineDeadlineExpiry _ | .holdDeadlineExpiry _ | .helloTimerExpiry
  | .trainingTimerExpiry | .downRetryExpiry | .keepaliveTimerExpiry | .silenceTimerExpiry
  | .handshakeTimerExpiry _ | .retransmitTimerExpiry _ | .ackDelayTimerExpiry _ | .responseTimerExpiry
  | .responderTimerExpiry => true
  | _ => false

/-- The arrivals of frames, which no soft reset examines (R164). -/
def isArrival : Instr → Bool
  | .helloArrival _ | .recArrival _ | .ackArrival _ | .nakArrival _ | .openArrival _ | .openedArrival _
  | .refuseArrival _ | .closeArrival _ | .closedArrival _ | .dgqArrival _ | .dgrArrival _ | .badFrameArrival
  | .unknownKindArrival _ => true
  | _ => false

/-- The commands that write the Window Table, by themselves or by a reset. -/
def writesWindows : Instr → Bool
  | .windowEntryWrite _ _ _ | .controlWordWrite _ _ | .softResetCompletion | .resetNRelease => true
  | _ => false

/-! ### The taking of a head -/

/-- The bytes of an ERROR answer: 00H for a read, none for a write (R1). -/
def errorBytes (r : SpRequest) : List Byte :=
  match r.op with
  | .read n => List.replicate n 0#8
  | .write _ => []

/-- State t is state u with the head gone from the request channel and the slot-wait timer stopped. Only the requests
standing at the link transmit arbiter and the count of free choices may differ besides. -/
def State.tookHead (u t : State) : Prop :=
  t = { u with
    sp := { u.sp with channel := [], slotWait := none }
    link := { u.link with class2 := t.link.class2, class3 := t.link.class3, class4 := t.link.class4 }
    choices := t.choices }

/-- State t is state s with the channel and the slot-wait timer given, and nothing taken. -/
def State.keptHead (s t : State) (channel : List SpRequest) (wait : Option SlotWait) : Prop :=
  t = { s with
    sp := { s.sp with channel := channel, slotWait := wait }
    link := { s.link with class2 := t.link.class2, class3 := t.link.class3, class4 := t.link.class4 }
    choices := t.choices }

/-- A classified write is placed in the send list of a stream (R12): a MIRROR write in RESYNC or ACTIVE, or a GATED
write in ACTIVE whose gate is open (Table 7-1, row 1). -/
def State.headPlaced (s : State) (r : SpRequest) (i : StreamId) : Prop :=
  (s.headInWindow r .mirror i ∧ ((s.stream i).state = .resync ∨ (s.stream i).state = .active)) ∨
    (s.headInWindow r .gated i ∧ (s.stream i).state = .active ∧
      (s.stream i).markReached (s.stream i).gateMark = true)

/-- A classified request that is forwarded without a record or a mark: a read, a write of no window or of a PASS
window, a MIRROR write in OFF or CLOSING, a GATED or GUARDED write in OFF (R10, R11, R14, R16). -/
def State.headUnrecorded (s : State) (r : SpRequest) : Prop :=
  s.headClassified r ∧
    (r.isWrite = false ∨ s.windowOf r.addr = none ∨ ∃ w, s.windowOf r.addr = some w ∧
      (w.kind = .pass ∨ (w.kind = .mirror ∧ ((s.stream w.stream).state = .off ∨ (s.stream w.stream).state = .closing)) ∨
        (w.kind = .gated ∧ (s.stream w.stream).state = .off) ∨
        (w.kind = .guarded ∧ (s.stream w.stream).state = .off)))

/-- The write joins the through queue as the newest request. -/
def MemoryPort.joined (m : MemoryPort) (r : SpRequest) (u : WriteUse) : MemoryPort :=
  { m with throughQueue := m.throughQueue ++ [{ req := r, use := u }] }

/-! ### Pool and streams -/

/-- The pool after a freeing of slots (R40, R42). -/
def Pool.freed (p : Pool) (threshold : Nat) (slots : List Nat) : Pool :=
  if slots = [] then p
  else
    { p with freeList := p.freeList ++ slots,
             lowArmed := p.lowArmed || decide (threshold ≤ (p.freeList ++ slots).length) }

/-- The slots that a flush frees: those of the records that are not CAPTURED (R38, R39). -/
def Stream.flushedSlots (st : Stream) : List Nat := (st.sendList.filter (fun r => r.state != .captured)).map Record.slot

/-- A STREAM_STATE entry that the end of the event puts (R49). -/
def stateEvent (i : StreamId) (st : StreamState) (c : Cause) (r : Reason) : OwedEvent :=
  { stream := i, detail := stateDetail st c r }

/-- A granule that entry to DEGRADED leaves dirty: one already dirty, that of a record, or that under copy (R38, R56). -/
def Stream.degradedDirty (st : Stream) (g : Nat) : Prop :=
  g ∈ st.dirty ∨ (∃ r ∈ st.sendList, st.cfg.granuleOf r.line = g) ∨ ∃ p, st.copyPos = some p ∧ p.granule = g

/-- The initiator job of the state ends with an outcome (R144). -/
def State.jobEnded (s u : State) (o : AuditOutcome) (r : Reason) (mine theirs : Option Word32) : Prop :=
  u = { s with
    audit := { s.audit with
      initiator := { s.audit.initiator with
        state := .idle, timer := none, dgqDue := false
        readOut := if s.audit.initiator.readOut = .none then .none else .ended }
      result := { outcome := o, reason := r, tag := s.audit.initiator.tag, stream := s.audit.initiator.stream,
                  localDigest := mine, partnerDigest := theirs } }
    events := (s.put .auditDone (some s.audit.initiator.stream) (BitVec.ofNat 20 (o.code + 256 * r.code))).events }

/-- The initiator job runs for the stream. -/
def State.auditing (s : State) (i : StreamId) : Prop :=
  s.audit.initiator.state ≠ .idle ∧ s.audit.initiator.stream = i

/-- The responder job of the state ends with an answer in the result slot (R147, R148). -/
def State.responderEnded (s u : State) (st : DgrStatus) (r : Reason) (digest : Word32) : Prop :=
  u = { s with
    audit := { s.audit with
      responder := { s.audit.responder with
        state := .idle, timer := none
        readOut := if s.audit.responder.readOut = .none then .none else .ended }
      resultSlot := some { stream := s.audit.responder.stream, target := s.audit.responder.origin,
                           tag := s.audit.responder.tag, status := st, reason := r, digest := digest } }
    link := { s.link with class4 :=
      if .dgrResult ∈ s.link.class4 then s.link.class4 else s.link.class4 ++ [.dgrResult] } }

/-- The initiator job's local digest as the state has it: present once READING has completed (R142, R144). -/
def State.localDigest (s : State) : Option Word32 :=
  if s.audit.initiator.state = .waiting then some (~~~s.audit.initiator.crc) else none

/-- A stream leaves ACTIVE: an initiator job of it ends ABORTED, reason STREAM; another goes on (R144). -/
def State.auditLeft (s u : State) (i : StreamId) : Prop :=
  (s.auditing i → ∃ v, s.jobEnded v .aborted .stream s.localDigest none ∧ u.audit = v.audit ∧ u.events = v.events) ∧
  (¬ s.auditing i → u.audit = s.audit ∧ u.events = s.events)

/-- Every held write of a stream is answered ERROR in taking order and its slot empties; the others stay held, their
ranks in the taking order closed up (R121). -/
def State.holdsAnswered (s u : State) (i : StreamId) : Prop :=
  u.sp = { s.sp with responses := s.sp.responses ++
    ((s.heldSlots i).filterMap s.hold).map (fun h => { tag := h.tag, status := .error, data := [] }) } ∧
  (∀ k, s.holdsStream i k = true → u.hold k = none) ∧
  (∀ k, s.hold k = none → u.hold k = none) ∧
  (∀ k h, s.hold k = some h → h.stream ≠ i → ∃ n, u.hold k = some { h with order := n })

/-- The Resync Engine, WAITING or REQUESTED for a stream that leaves RESYNC, is IDLE; otherwise it is as it was
(R136). -/
def State.engineLeft (s u : State) (i : StreamId) : Prop :=
  let own := s.engine.state = .waiting i ∨ ∃ ses, s.engine.state = .requested i ses
  (own → u.engine = { s.engine with state := .idle }) ∧ (¬ own → u.engine = s.engine)

/-- Entry to DEGRADED with its entry actions (R38, R55, R56, R121, R136, R144). -/
def State.enteredDegraded (s u : State) (i : StreamId) (c : Cause) (r : Reason) : Prop :=
  u.stream i = { s.stream i with
    state := .degraded, cause := c, reason := r, sendList := (u.stream i).sendList, dirty := (u.stream i).dirty
    copyPos := none, cursor := none, retransmitTimer := none, handshakeTimer := none, handshakeDue := false
    retryCount := 0 } ∧
  (u.stream i).sendList = flushedList (s.stream i).sendList ∧
  (∀ g, g ∈ (u.stream i).dirty ↔ (s.stream i).degradedDirty g) ∧
  (∀ j, j ≠ i → u.stream j = s.stream j) ∧
  u.pool = s.pool.freed s.global.poolLowThreshold (s.stream i).flushedSlots ∧
  s.holdsAnswered u i ∧ u.owed = s.owed ++ [stateEvent i .degraded c r] ∧ s.engineLeft u i ∧ s.auditLeft u i ∧
  u = { s with streams := u.streams, pool := u.pool, sp := u.sp, holds := u.holds, owed := u.owed, engine := u.engine
               audit := u.audit, events := u.events }

/-- CLOSING ends in OFF: a flush without marking, no cursor, no timers (R39, R59). -/
def State.enteredOff (s u : State) (i : StreamId) (c : Cause) (r : Reason) : Prop :=
  u = { s.setStream i { s.stream i with
          state := .off, cause := c, reason := r, sendList := flushedList (s.stream i).sendList, cursor := none
          retransmitTimer := none, handshakeTimer := none, handshakeDue := false } with
        pool := s.pool.freed s.global.poolLowThreshold (s.stream i).flushedSlots
        owed := s.owed ++ [stateEvent i .off c r] }

/-- Every Apply Queue entry of a stream carries the stale flag (R110). -/
def ApplyEngine.staled (a : ApplyEngine) (i : StreamId) : ApplyEngine :=
  { a with queue := a.queue.map (fun e => if e.stream = i then { e with stale := true } else e) }

/-- The responder job of a stream ends REFUSED, reason NOT_BOUND; that of another stream goes on (R147). -/
def State.responderLeft (s u : State) (i : StreamId) : Prop :=
  if s.audit.responder.state ≠ .idle ∧ s.audit.responder.stream = i then
    ∃ v, s.responderEnded v .refused .notBound 0#32 ∧ u.audit = v.audit ∧ u.link.class4 = v.link.class4
  else u.audit = s.audit ∧ u.link.class4 = s.link.class4

/-- A RECEIVE stream enters LISTEN or OFF (R63, R64, R98, R110). -/
def State.leftBound (s u : State) (i : StreamId) (st : StreamState) (c : Cause) (r : Reason) : Prop :=
  u = { s.setStream i { s.stream i with
          state := st, cause := c, reason := r, unacked := 0, ackCount := 0, ackDelayTimer := none
          nakOutstanding := false } with
        apply := s.apply.staled i, audit := u.audit, link := { s.link with class4 := u.link.class4 }
        owed := s.owed ++ [stateEvent i st c r] } ∧
  s.responderLeft u i

/-! ### The link -/

/-- The link retrains: LINK_RETRAIN with its cause, after PROTOCOL_ERROR where the cause has one; entry to TRAINING;
every request withdrawn; what streams lose at the link's leaving of UP (R52, R69, R78, R94, R111). -/
def State.retrained (s u : State) (cause : Nat) (error : Option Nat) : Prop :=
  u = { s with
    events := (State.put (match error with
      | some d => s.put .protocolError none (BitVec.ofNat 20 d)
      | none => s) .linkRetrain none (BitVec.ofNat 20 cause)).events
    link := { s.link with
      state := .training, confirmed := false, heard := false, heardSent := false, lastAdvert := 0, credits := 0
      txNumber := 0#8, rxNumber := 0#8, keepaliveTimer := none, silenceTimer := none, downTimer := none
      trainingTimer := s.startTimer (s.global.trainingTimeout * 100), helloTimer := s.startTimer 10
      helloRequest := true, class2 := [], class3 := [], class4 := [] }
    streams := u.streams
    apply := { s.apply with pendingCredits := 0 } } ∧
  ∀ i, u.stream i = { s.stream i with
    handshakeTimer := none, handshakeDue := false, retransmitTimer := none, nakSlot := none, ackCount := 0
    nakOutstanding := false }

/-- The stream is reopened when the link reaches UP (R57). -/
abbrev Stream.reopens (st : Stream) : Prop :=
  st.cfg.direction = .send ∧ st.state = .degraded ∧ st.cfg.autoReopen = true ∧ st.cause ≠ .peerRefused

/-- A SEND stream in RESYNC, ACTIVE or CLOSING with a SENT record, whose cursor goes back when the link reaches UP
(R95). -/
def Stream.goesBack (st : Stream) : Prop :=
  st.cfg.direction = .send ∧ (st.state = .resync ∨ st.state = .active ∨ st.state = .closing) ∧
    ∃ r ∈ st.sendList, r.state = .sent

/-- A stream as the link's reaching of UP leaves it: its OPEN or CLOSE due again, its cursor back at the oldest
record, an ACK owed for applies of the training, or reopened (R52, R57, R65, R95, R111). -/
def Stream.atUp (st u : Stream) : Prop :=
  (st.reopens → u = { st with
    state := .opening, cause := .autoReopen, reason := .none, session := st.session + 1, nextSeq := 0#16
    ackedSeq := 65535#16, sentSeq := 65535#16, retryCount := 0, handshakeDue := true, handshakeTimer := none
    copyPos := none, cursor := none, retransmitTimer := none }) ∧
  (¬ st.reopens →
    u = { st with
      handshakeDue := st.handshakeDue || decide (st.cfg.direction = .send ∧
        (st.state = .opening ∨ (st.state = .closing ∧ st.sendList = [])))
      cursor := u.cursor
      ackCount := if st.state = .bound ∧ 0 < st.unacked ∧ st.ackCount = 0 then 1 else st.ackCount } ∧
    (st.goesBack → u.cursor = st.sendList.head?.map Record.seq) ∧ (¬ st.goesBack → u.cursor = st.cursor))

/-- The link reaches UP in TRAINING at the arrival of a HELLO (R70). Each stream reopened owes its STREAM_STATE, in
ascending stream number (R49, R57). -/
def State.reachedUp (s u : State) (f : HelloFrame) (advert : Nat) (rx : Byte) : Prop :=
  u = { s with
    link := { s.link with
      state := .up, partnerId := f.identity, heard := true, lastAdvert := advert, credits := advert, txNumber := 0#8
      rxNumber := rx, confirmed := f.senderUp, trainingTimer := none, helloTimer := none
      silenceTimer := s.startTimer (s.global.silence * 10), keepaliveTimer := s.startTimer (s.global.keepalive * 10)
      helloRequest := true }
    events := (s.put .linkUp none (BitVec.ofNat 20 advert)).events
    streams := u.streams
    owed := s.owed ++ allStreams.flatMap (fun i =>
      if (s.stream i).reopens then [stateEvent i .opening .autoReopen .none] else []) } ∧
  ∀ i, (s.stream i).atUp (u.stream i)

/-- A frame has been granted in UP: the transmitter carries it, the transmit frame number has risen, the keepalive
timer restarts (R75, R76). -/
def State.sent (s : State) (f : Frame) : State :=
  { s with
    out := { s.out with frame := some f }
    link := { s.link with txNumber := s.link.txNumber + 1
                          keepaliveTimer := s.startTimer (s.global.keepalive * 10) } }

/-- The arbiter grants by the classes of Table 4-7: the link UP and confirmed, no HELLO waiting, no reset. -/
def State.grantsClasses (s : State) : Prop :=
  s.live ∧ s.link.state = .up ∧ s.link.helloRequest = false ∧ s.link.confirmed = true

/-- The state at the acceptance of an ACK, a NAK or an UP HELLO, its credit return added (R81). -/
def State.credited (s : State) (n : Byte) : State :=
  { s.atAcceptance with link := { s.atAcceptance.link with credits := s.link.credits + n.toNat } }

/-- The credit return fits the counter (R81). -/
def State.creditFits (s : State) (n : Byte) : Prop := s.link.credits + n.toNat ≤ s.link.lastAdvert

/-- One credit more is pending return (R105). -/
def ApplyEngine.pended (a : ApplyEngine) : ApplyEngine := { a with pendingCredits := min 32 (a.pendingCredits + 1) }

/-- One stream at a link DOWN event (R65): to DEGRADED, from CLOSING to OFF, from BOUND to LISTEN, or unchanged. -/
def State.wentDown (s u : State) (i : StreamId) : Prop :=
  match (s.stream i).state with
  | .opening | .resync | .active => s.enteredDegraded u i .linkDown .none
  | .closing => s.enteredOff u i .linkDown .none
  | .bound => s.leftBound u i .listen .linkDown .none
  | .off | .degraded | .listen => u = s

/-- The streams at a link DOWN event, one after another from stream 0 on (R49, R65). -/
def State.streamsWentDown (s u : State) : Prop :=
  ∃ path : Fin 9 → State, path 0 = s ∧ path 8 = u ∧ ∀ i : StreamId, (path i.castSucc).wentDown (path i.succ) i

/-! ### The head that waits -/

/-- The state with nothing in its request channel. -/
def State.noChannel (s : State) : State := { s with sp := { s.sp with channel := [] } }

/-- A head waits for its tag, for a held line or for a hold slot (Table 1-2, rows 2 and 5; Table 7-1, row 3). -/
def State.headBlocked (s : State) (r : SpRequest) : Prop :=
  s.tagOutstanding r.tag = true ∨
    (r.crossesLine = false ∧ r.emptyWrite = false ∧ s.heldLine (lineOf r.addr) = true) ∨
    ∃ i, s.headInWindow r .gated i ∧ ((s.stream i).state = .resync ∨ (s.stream i).state = .active) ∧
      ¬((s.stream i).state = .active ∧ (s.stream i).markReached (s.stream i).gateMark = true) ∧ ∀ k, s.hold k ≠ none

/-- A head waits for a record slot of a stream (Table 2-3, R12, R13): to be placed, no merge, no slot, policy STALL. -/
def State.headLacksSlot (s : State) (r : SpRequest) (i : StreamId) : Prop :=
  s.headPlaced r i ∧ (s.stream i).mergeTarget ((s.stream i).cfg.lineIndex r.addr) = none ∧ s.slotAllowed i = false ∧
    (s.stream i).cfg.policy = .stall

/-- The slot-wait timer started now for a stream (R13). -/
def State.slotWaitFrom (s : State) (i : StreamId) : SlotWait :=
  { stream := i, expiry := s.events.time + BitVec.ofNat 32 (s.stream i).cfg.stallTimeout }

/-! ### Performing, tracking and releasing -/

/-- The granule of a line marked in RESYNC or ACTIVE, with the move of an ACTIVE stream to RESYNC, and the write of
the line performed: its two notices, and the end of an audit of the stream (R19, R54, R125, R144). -/
def State.markedAndPerformed (s u : State) (i : StreamId) (addr : Addr) : Prop :=
  let st := s.stream i
  let dirty := insertGranule (st.cfg.granuleOf (st.cfg.lineIndex addr)) st.dirty
  (st.state = .resync → u.stream i = { st with dirty := dirty } ∧ u.owed = s.owed ∧
    u.audit = (s.perform (lineOf addr)).audit ∧ u.events = s.events) ∧
  (st.state = .active →
    u.stream i = { st with dirty := dirty, state := .resync, cause := .dirty, reason := .none } ∧
    u.owed = s.owed ++ [stateEvent i .resync .dirty .none] ∧
    (s.auditing i → s.auditLeft u i) ∧
    (¬ s.auditing i → u.audit = (s.perform (lineOf addr)).audit ∧ u.events = s.events)) ∧
  (∀ j, j ≠ i → u.stream j = s.stream j) ∧ u.engine = (s.perform (lineOf addr)).engine

/-- A write merged into a record of its stream (R28). -/
def State.mergedInto (s : State) (i : StreamId) (slot : Nat) (p : Payload) : State :=
  s.setStream i { s.stream i with
    sendList := (s.stream i).sendList.map (fun x : Record =>
      if x.slot = slot then
        { x with payload := x.payload.merge p, pendingWrites := x.pendingWrites + 1, state := .captured }
      else x) }

/-- A record appended to the send list of a stream, the slots that stay free given, and the pool's monitors served
(R22, R34, R42, R43, R84). -/
def State.appended (s : State) (i : StreamId) (rest : List Nat) (y : Record) : State :=
  let low := decide (rest.length < s.global.poolLowThreshold)
  { s.setStream i { s.stream i with
      sendList := (s.stream i).sendList.map (fun x : Record => { x with deadline := none }) ++ [y]
      nextSeq := (s.stream i).nextSeq + 1
      cursor := some ((s.stream i).cursor.getD (s.stream i).nextSeq) } with
    pool := { freeList := rest, minFree := min s.pool.minFree rest.length, lowArmed := s.pool.lowArmed && !low }
    events := if s.pool.lowArmed = true ∧ low = true then (s.put .poolLow none (BitVec.ofNat 20 rest.length)).events
      else s.events }

/-- A write recorded in a new DATA record of its stream, in the slot given (R25, R33). -/
def State.recordedIn (s : State) (i : StreamId) (slot : Nat) (rest : List Nat) (line : LineIndex) (p : Payload) :
    State :=
  s.appended i rest
    { slot := slot, stream := i, session := (s.stream i).session, seq := (s.stream i).nextSeq, kind := .data
      line := line, payload := p, state := .captured, pendingWrites := 1, discard := false
      deadline := if (s.stream i).cfg.combineHold = 0 then none
        else some (s.events.time + BitVec.ofNat 32 (s.stream i).cfg.combineHold) }

/-- A held write's release condition (R117). -/
def State.releaseHolds (s : State) (h : HeldWrite) : Prop :=
  (s.stream h.stream).state = .active ∧ (s.stream h.stream).session = h.session ∧
    (h.mark = none ∨ ∃ q, h.mark = some q ∧ seqAtOrAfter (s.stream h.stream).ackedSeq q = true)

/-- A held write leaves its slot, is merged, recorded or tracked, and is performed (R118). -/
def State.released (s u : State) (k : Fin 4) (h : HeldWrite) : Prop :=
  let i := h.stream
  let r := h.request
  let line := (s.stream i).cfg.lineIndex h.addr
  let target := (s.stream i).mergeTarget line
  u.hold k = none ∧
  (∀ j, j ≠ k → u.hold j =
    (s.hold j).map (fun w => { w with order := if h.order < w.order then w.order - 1 else w.order })) ∧
  (∀ y, target = some y →
    u = { (s.perform (lineOf h.addr)).mergedInto i y.slot r.payload with
      mp := s.mp.joined r (.bound i y.slot), holds := u.holds }) ∧
  (∀ slot rest, target = none → s.slotAllowed i = true → s.pool.freeList = slot :: rest →
    u = { (s.perform (lineOf h.addr)).recordedIn i slot rest line r.payload with
      mp := s.mp.joined r (.bound i slot), holds := u.holds }) ∧
  (target = none → s.slotAllowed i = false →
    s.markedAndPerformed u i h.addr ∧
    u = { s with mp := s.mp.joined r (.tracked i line), holds := u.holds, streams := u.streams, owed := u.owed
                 engine := u.engine, audit := u.audit, events := u.events })

/-- Held writes tested one after another in the order of a list, each against the state that the earlier releases
left (R119). -/
def State.releasedInOrder (s : State) : List (Fin 4) → State → Prop
  | [], u => u = s
  | k :: rest, u =>
    match s.hold k with
    | none => s.releasedInOrder rest u
    | some h =>
      (s.releaseHolds h → ∃ v, s.released v k h ∧ v.releasedInOrder rest u) ∧
      (¬ s.releaseHolds h → s.releasedInOrder rest u)

end Sys2Proof.Machine
end

