-- ==== Sys2Proof/Certificates/Slice0/Obligations.lean ====
section
/-! DEFINITION. The statements for the provers. -/

open Sys2Proof Sys2Proof.Machine

/-! ### The step and the resets -/

/-- A step takes the command at the front of the queue and runs it; on an empty queue it makes the controller's next
read, or the time counter rises (the model's choice, logs 1, 33) (spec 95 What each step holds; NOTES logs 1, 33). -/
def Obligations.StepRunsFrontCommand : Prop :=
  (∀ (c : Instr) (rest : List Instr) (s : State), s.pending = c :: rest →
    step s = exec c { s with pending := rest }) ∧
  (∀ (a : BitVec 16) (rest : List (BitVec 16)) (s : State), s.pending = [] → s.mgmt.reads = a :: rest →
    step s = readControlWord a { s with mgmt := { s.mgmt with reads := rest } }) ∧
  ∀ s : State, s.pending = [] → s.mgmt.reads = [] → s.resetAsserted = false →
    step s = .next { s with events := { s.events with time := s.events.time + 1 } }

/-- RESET_N: asserting it, what an asserted RESET_N stops, and the state at its release (that nothing acts until the
release is the model's reading, log 14) (spec 11.5 Resets; spec 11.1 SPI transactions; NOTES logs 14, 4, 3, 33). -/
def Obligations.ResetNSequence : Prop :=
  (∀ s : State, s.resetAsserted = false → s.owed = [] →
    exec .resetNAssert s = .next { s with
      resetAsserted := true, mgmt := { s.mgmt with spi := { s.mgmt.spi with miso := [] } } }) ∧
  (∀ (c : Instr) (s t : State), s.resetAsserted = true → c ≠ .resetNRelease → exec c s = .next t →
    t.sp.responses = s.sp.responses ∧ t.mp = s.mp ∧ t.link = s.link ∧ t.out = s.out ∧ t.mgmt = s.mgmt ∧
      t.holds = s.holds ∧ t.alertLow = false) ∧
  (∀ s : State, s.resetAsserted = true →
    let R := { State.reset with mgmt := { State.reset.mgmt with reads := s.mgmt.reads }, out := s.out
                                choices := s.choices, pending := s.pending }
    (s.sp.channel = [] → exec .resetNRelease s = .next R) ∧
    (∀ heads r, s.sp.channel = heads ++ [r] → r.wf = true →
      exec .resetNRelease s = exec (.headTaking r) { R with sp := { R.sp with channel := heads } }) ∧
    (∀ r, s.sp.channel = [r] → r.wf = true → r.crossesLine = false → r.emptyWrite = false →
      ∃ t, exec .resetNRelease s = .next t ∧ State.tookHead { R with mp := R.mp.joined r .plain } t)) ∧
  (∀ n, State.reset.window n = { enable := false, kind := .pass, base := 0#36, sizeCode := 0, stream := 0 }) ∧
  (∀ i, (State.reset.stream i).state = .off ∧ (State.reset.stream i).sendList = []) ∧
  State.reset.link.state = .off ∧ State.reset.freeCount = 512 ∧ State.reset.events.entries = [] ∧
  State.reset.events.lost = false ∧ State.reset.events.time = 0#32 ∧
  State.reset.mgmt.result.outcome = .none ∧ State.reset.global.alertEnable = false ∧ State.reset.alertLow = false

/-- SOFT_RESET is DONE, sets the reset under way, answers every held write ERROR in taking order, withdraws a copy
request, stops timers and deadlines (spec 11.5 Resets; spec 11.3 Commands; NOTES logs 4, 28, 43). -/
def Obligations.SoftResetBegins : Prop :=
  ∀ (p : CmdParams) (s : State), s.writable →
    ∃ u, exec (.softReset p) s = .next (settle u) ∧
      u.softReset = true ∧ u.mgmt = s.afterCommand 0x5A#8 p .done ∧
      u.sp = { channel := s.sp.channel, slotWait := none,
               responses := s.sp.responses ++ (s.slotsInOrder.filterMap s.hold).map
                 (fun h => { tag := h.tag, status := .error, data := [] }) } ∧
      (∀ k, u.hold k = none) ∧ u.copyRequest = false ∧
      (∀ i ses, s.engine.state = .requested i ses → u.engine = { s.engine with state := .idle }) ∧
      ((∀ i ses, s.engine.state ≠ .requested i ses) → u.engine = s.engine) ∧
      u.link = { s.link with helloTimer := none, trainingTimer := none, downTimer := none, keepaliveTimer := none,
                             silenceTimer := none } ∧
      (∀ i, u.stream i = { s.stream i with
        handshakeTimer := none, retransmitTimer := none, ackDelayTimer := none
        sendList := (s.stream i).sendList.map (fun r : Record => { r with deadline := none }) }) ∧
      u.audit = { s.audit with initiator := { s.audit.initiator with timer := none }
                               responder := { s.audit.responder with timer := none } } ∧
      u = { s with softReset := true, mgmt := u.mgmt, sp := u.sp, holds := u.holds, engine := u.engine,
                   link := u.link, streams := u.streams, audit := u.audit }

/-- During a soft reset every control-space write is refused and every expiry, arrival and frame grant changes nothing
(spec 11.5 Resets; spec 11.2 Control space; spec 11.1 SPI transactions; NOTES logs 28, 12). -/
def Obligations.SoftResetStopsWritesAndEvents : Prop :=
  (∀ (c : Instr) (a : BitVec 16) (s : State), writeAddress c = some a → s.portOpen → s.softReset = true →
     s.owed = [] →
     exec c s = .next { s with mgmt := { s.mgmt with spi := {
       kind := .write, address := a + 1, refused := true
       miso := s.mgmt.spi.lead .write a ++ [.status true] } } }) ∧
  (∀ (c : Instr) (s : State), (isExpiry c = true ∨ isArrival c = true ∨ c = .transmitGrant) → c.wf = true →
     s.softReset = true → s.resetAsserted = false → s.owed = [] → exec c s = .next s)

/-- SOFT_RESET_COMPLETION, the waits over, gives the reset state with RESET and the kept result and classifies the
waiting head; before that it does nothing (spec 11.5 Resets; NOTES logs 11, 3, 33). -/
def Obligations.SoftResetCompletes : Prop :=
  (∀ s : State, s.resetAsserted = false → s.softReset = true → s.mp.outstanding = [] → s.mp.throughQueue = [] →
    s.sp.responses = [] →
    let R := { State.reset with
      mgmt := { spi := s.mgmt.spi, reads := s.mgmt.reads, commandWord := 0#32, result := s.mgmt.result }
      events := { entries := [{ code := .reset, stream := none, detail := 0#20, time := 0#32 }], lost := false,
                  latchedTime := 0#32, time := 0#32 }
      out := s.out, choices := s.choices, pending := s.pending }
    (s.sp.channel = [] → exec .softResetCompletion s = .next R) ∧
    (∀ heads r, s.sp.channel = heads ++ [r] → r.wf = true →
      exec .softResetCompletion s = exec (.headTaking r) { R with sp := { R.sp with channel := heads } }) ∧
    (∀ r, s.sp.channel = [r] → r.wf = true → r.crossesLine = false → r.emptyWrite = false →
      ∃ t, exec .softResetCompletion s = .next t ∧ State.tookHead { R with mp := R.mp.joined r .plain } t)) ∧
  ∀ s : State, s.resetAsserted = false → s.softReset = true → s.owed = [] →
    (s.mp.outstanding ≠ [] ∨ s.mp.throughQueue ≠ [] ∨ s.sp.responses ≠ []) → exec .softResetCompletion s = .next s

/-! ### Invariants -/

/-- The state after reset is settled, its pool partitioned, its credits and queues bounded and its held lines distinct
(spec 2.1 Slots and records; spec 4.5 Credits; NOTES log 4). -/
def Obligations.InvariantsHoldAtReset : Prop :=
  State.reset.settled ∧ State.reset.poolPartitioned ∧ State.reset.creditsBounded ∧ State.reset.queuesBounded ∧
    State.reset.heldLinesDistinct

/-- Every step keeps the Record Pool partitioned: each of the 512 slots is in the free list or in one send list, once
(spec 2.1 Slots and records). -/
def Obligations.PoolPartitionKept : Prop :=
  ∀ s t : State, s.poolPartitioned → step s = .next t → t.poolPartitioned

/-- Every step keeps the credit bound, the bounds of the Apply Queue, pending credits and Event Queue, and the held
lines distinct (spec 4.5 Credits; spec 6.1 The Apply Queue and receive-side state; spec 11.4 The Event Queue and
ALERT_N; spec 1.4 Line hazards and notices). -/
def Obligations.BoundsKept : Prop :=
  (∀ s t : State, s.creditsBounded → step s = .next t → t.creditsBounded) ∧
  (∀ s t : State, s.queuesBounded → step s = .next t → t.queuesBounded) ∧
  (∀ s t : State, s.heldLinesDistinct → step s = .next t → t.heldLinesDistinct)

/-- Every step leaves a live state settled: nothing owed, no Apply Queue entry to pass or retire, no stream to serve
(the model's end of event, log 4) (spec 95 What each step holds; NOTES log 4). -/
def Obligations.SettledKept : Prop :=
  ∀ s t : State, s.settledWhenLive → step s = .next t → t.settledWhenLive

/-! ### Frame formats -/

/-- The bytes of every frame, with its frame check, are received as that frame's arrival (spec 12.1 Frame formats;
spec 4.3 The link in UP; NOTES log 38). -/
def Obligations.FrameBytesReceived : Prop :=
  ∀ f : Frame, receive f.bytes = f.arrival

/-! ### Configuration frames -/

/-- No command but a write of a window word, the soft reset's completion or the release of RESET_N changes the Window
Table (spec 1.2 The Window Table). -/
def Obligations.WindowTableKept : Prop :=
  ∀ (c : Instr) (s t : State), writesWindows c = false → exec c s = .next t → t.windows = s.windows

/-! ### The end of an event -/

/-- What the end of an event leaves unchanged, and that the owed STREAM_STATE entries are put by ascending stream
(logs 4, 6) (spec 3.2 Sessions, handshake frames and causes; spec 95 What each step holds; NOTES logs 4, 6). -/
def Obligations.EndOfEventFrame : Prop :=
  ∀ s : State,
    (settle s).windows = s.windows ∧ (settle s).mgmt = s.mgmt ∧ (settle s).global = s.global ∧
    (settle s).softReset = s.softReset ∧ (settle s).resetAsserted = s.resetAsserted ∧ (settle s).out = s.out ∧
    (settle s).pending = s.pending ∧ (settle s).owed = [] ∧ s.sameLinkButRequests (settle s) ∧
    (settle s).mp = { s.mp with throughQueue := (settle s).mp.throughQueue } ∧
    (∀ i, ((settle s).stream i).cfg = (s.stream i).cfg ∧ ((settle s).stream i).session = (s.stream i).session) ∧
    (s.sp.channel = [] → s.applyRest →
      (settle s).events = ((allStreams.flatMap (fun i => s.owed.filter (fun o => o.stream == i))).foldl
        (fun u o => u.put .streamState (some o.stream) o.detail) s).events)

/-- After every event of a live state, the arbiter holds exactly the ACK, NAK, due OPEN and CLOSE, DGQ and DGR
requests that the streams and the Audit Unit have (spec 4.6 The link transmit arbiter; spec 5.6 Link events; spec 6.4
ACK and NAK frames; spec 9.4 The responder job; NOTES log 4). -/
def Obligations.StandingRequests : Prop :=
  ∀ s : State, s.live →
    (∀ i, .ack i ∈ (settle s).link.class2 ↔ 0 < ((settle s).stream i).ackCount) ∧
    (∀ i, .nak i ∈ (settle s).link.class2 ↔ ((settle s).stream i).nakSlot ≠ none) ∧
    (∀ i, .openDue i ∈ (settle s).link.class3 ↔ (settle s).link.state = .up ∧
      ((settle s).stream i).state = .opening ∧ ((settle s).stream i).handshakeDue = true) ∧
    (∀ i, .closeDue i ∈ (settle s).link.class3 ↔ (settle s).link.state = .up ∧
      ((settle s).stream i).state = .closing ∧ ((settle s).stream i).handshakeDue = true) ∧
    ((settle s).link.state = .up →
      (.dgq ∈ (settle s).link.class4 ↔
        (settle s).audit.initiator.state = .waiting ∧ (settle s).audit.initiator.dgqDue = true) ∧
      (.dgrResult ∈ (settle s).link.class4 ↔ (settle s).audit.resultSlot ≠ none) ∧
      (.dgrImmediate ∈ (settle s).link.class4 ↔ (settle s).audit.immediateSlot ≠ none))

/-! ### The System Port -/

/-- A request that crosses a line boundary is taken and answered ERROR, with nothing forwarded, recorded, marked or
raised (R3). -/
def Obligations.CrossingHeadAnsweredError : Prop :=
  ∀ (r : SpRequest) (s : State), s.headReady r → bytePos r.addr + r.op.count > 64 →
    ∃ t, exec (.headTaking r) s = .next t ∧
      State.tookHead { s with sp := { s.sp with responses :=
          s.sp.responses ++ [{ tag := r.tag, status := .error, data := errorBytes r }] } } t ∧
      ∀ v : State, { tag := r.tag, status := .error, data := errorBytes r } ∈ v.sp.responses →
        v.tagOutstanding r.tag = true

/-- A write with no strobe set is taken and answered OKAY at once, whatever its window (R4). -/
def Obligations.EmptyWriteAnsweredOkay : Prop :=
  ∀ (r : SpRequest) (lanes : List Lane) (s : State), s.headReady r → r.crossesLine = false → r.op = .write lanes →
    (∀ l ∈ lanes, l.strobe = false) →
    ∃ t, exec (.headTaking r) s = .next t ∧
      State.tookHead { s with sp := { s.sp with responses :=
          s.sp.responses ++ [{ tag := r.tag, status := .okay, data := [] }] } } t

/-- A head waits, nothing taken and no timer running, for an outstanding tag, a held line or a hold slot, and a
request behind it waits; each event's end tries the head anew (spec 1.1 Requests at the System Port; spec 1.4 Line
hazards and notices; spec 1.3 Disposition of a request; spec 7.1 Gate marks and the gate check; NOTES log 4). -/
def Obligations.HeadWaits : Prop :=
  (∀ (r : SpRequest) (s : State), s.live → s.settled → s.sp.channel = [] → r.wf = true → s.headBlocked r →
    ∃ t, exec (.headTaking r) s = .next t ∧ s.keptHead t [r] none) ∧
  (∀ (r head : SpRequest) (rest : List SpRequest) (s : State), s.live → s.settled → s.sp.channel = head :: rest →
    r.wf = true → s.noChannel.headBlocked head →
    ∃ t, exec (.headTaking r) s = .next t ∧ s.keptHead t (head :: rest ++ [r]) none) ∧
  ∀ (head : SpRequest) (rest : List SpRequest) (s : State), s.sp.channel = rest ++ [head] → head.wf = true →
    exec (.headTaking head) { s with sp := { s.sp with channel := rest } } = .next (settle s)

/-- Heads forwarded with no record, mark or event (reads, PASS, and the states that do not mirror), and the notices a
performing write gives (spec 1.3 Disposition of a request; spec 1.4 Line hazards and notices). -/
def Obligations.UnrecordedHeadForwarded : Prop :=
  (∀ (r : SpRequest) (s : State), s.headUnrecorded r →
    ∃ t, exec (.headTaking r) s = .next t ∧
      State.tookHead { (if r.isWrite then s.perform (lineOf r.addr) else s) with mp := s.mp.joined r .plain } t) ∧
  ∀ (line : Addr) (s : State),
    (∀ c, s.engine.state = .reading c → c.lineAddr = line →
      (s.perform line).engine.state = .reading { c with spoiled := true }) ∧
    ((∀ c, s.engine.state = .reading c → c.lineAddr ≠ line) → (s.perform line).engine = s.engine) ∧
    (s.audit.initiator.state = .reading →
      (s.stream s.audit.initiator.stream).cfg.extentBase.toNat + 64 * s.audit.initiator.firstLine ≤ line.toNat →
      line.toNat < (s.stream s.audit.initiator.stream).cfg.extentBase.toNat +
        64 * (s.audit.initiator.firstLine + s.audit.initiator.lineCount) →
      (s.perform line).audit.initiator.disturbed = true) ∧
    (¬(s.audit.initiator.state = .reading ∧
        (s.stream s.audit.initiator.stream).cfg.extentBase.toNat + 64 * s.audit.initiator.firstLine ≤ line.toNat ∧
        line.toNat < (s.stream s.audit.initiator.stream).cfg.extentBase.toNat +
          64 * (s.audit.initiator.firstLine + s.audit.initiator.lineCount)) →
      (s.perform line).audit = s.audit) ∧
    s.perform line = { s with engine := (s.perform line).engine, audit := { s.audit with
      initiator := { s.audit.initiator with disturbed := (s.perform line).audit.initiator.disturbed } } }

/-- A MIRROR write in OPENING or DEGRADED, or one that policy TRACK leaves without a slot, is forwarded with its
granule marked dirty and no record made (spec 1.3 Disposition of a request; spec 2.5 Local completion; spec 3.4 The
SEND state machine; spec 8.1 The dirty map). -/
def Obligations.TrackedHeadForwarded : Prop :=
  ∀ (r : SpRequest) (i : StreamId) (s : State),
    (s.headInWindow r .mirror i → ((s.stream i).state = .opening ∨ (s.stream i).state = .degraded) →
      ∃ t, exec (.headTaking r) s = .next t ∧
        State.tookHead { (s.perform (lineOf r.addr)).setStream i { s.stream i with
            dirty := insertGranule ((s.stream i).cfg.granuleOf ((s.stream i).cfg.lineIndex r.addr))
              (s.stream i).dirty } with
          mp := s.mp.joined r (.tracked i ((s.stream i).cfg.lineIndex r.addr)) } t) ∧
    (s.headPlaced r i → (s.stream i).mergeTarget ((s.stream i).cfg.lineIndex r.addr) = none →
      s.slotAllowed i = false → (s.stream i).cfg.policy = .track →
      ∃ t, exec (.headTaking r) s = .next t ∧ (t.stream i).state = .resync ∧
        ((s.stream i).cfg.granuleOf ((s.stream i).cfg.lineIndex r.addr) ∈ (t.stream i).dirty ∨
          (t.stream i).copyPos =
            some { granule := (s.stream i).cfg.granuleOf ((s.stream i).cfg.lineIndex r.addr), line := 0 }) ∧
        (t.stream i).sendList = (s.stream i).sendList ∧ (∀ j, j ≠ i → t.stream j = s.stream j) ∧
        t.sp = { s.sp with channel := [], slotWait := none } ∧ t.pool = s.pool ∧ t.holds = s.holds ∧
        t.mp = s.mp.joined r (.tracked i ((s.stream i).cfg.lineIndex r.addr)) ∧
        ((s.stream i).state = .resync → t.events = s.events) ∧
        ((s.stream i).state = .active → ¬ s.auditing i →
          t.events = (s.put .streamState (some i) (stateDetail .resync .dirty .none)).events))

/-- A placed write merges into the youngest record of its line: bytes, mask and pending count change, the record is
CAPTURED, the write is bound and forwarded (spec 2.4 Merging; spec 2.3 Creating records; spec 1.3 Disposition of a
request). -/
def Obligations.MergedHead : Prop :=
  ∀ (r : SpRequest) (i : StreamId) (y : Record) (s : State), s.headPlaced r i →
    (s.stream i).sendList.getLast? = some y → y.state ≠ .sent → y.kind ≠ .void →
    y.line = (s.stream i).cfg.lineIndex r.addr → y.discard = false → y.pendingWrites < 16 →
    ∃ t, exec (.headTaking r) s = .next t ∧
      State.tookHead { (s.perform (lineOf r.addr)).setStream i { s.stream i with
          sendList := (s.stream i).sendList.map (fun x : Record =>
            if x.slot = y.slot then
              { x with payload := x.payload.merge r.payload, pendingWrites := x.pendingWrites + 1
                       state := .captured }
            else x) } with
        mp := s.mp.joined r (.bound i y.slot) } t

/-- A placed write that does not merge and is allowed a slot makes a new DATA record from the front free slot (which
slot is log 9) with the pool's monitors served (spec 2.3 Creating records; spec 2.6 Combine hold; spec 2.9 Pool
monitors; spec 1.3 Disposition of a request). -/
def Obligations.RecordedHead : Prop :=
  ∀ (r : SpRequest) (i : StreamId) (slot : Nat) (rest : List Nat) (s : State), s.headPlaced r i →
    (s.stream i).mergeTarget ((s.stream i).cfg.lineIndex r.addr) = none → s.slotAllowed i = true →
    s.pool.freeList = slot :: rest →
    ∃ t, exec (.headTaking r) s = .next t ∧
      State.tookHead { (s.perform (lineOf r.addr)).setStream i { s.stream i with
          sendList := (s.stream i).sendList.map (fun x : Record => { x with deadline := none }) ++
            [{ slot := slot, stream := i, session := (s.stream i).session, seq := (s.stream i).nextSeq, kind := .data
               line := (s.stream i).cfg.lineIndex r.addr, payload := r.payload, state := .captured
               pendingWrites := 1, discard := false
               deadline := if (s.stream i).cfg.combineHold = 0 then none
                 else some (s.events.time + BitVec.ofNat 32 (s.stream i).cfg.combineHold) }]
          nextSeq := (s.stream i).nextSeq + 1
          cursor := some ((s.stream i).cursor.getD (s.stream i).nextSeq) } with
        mp := s.mp.joined r (.bound i slot)
        pool := { freeList := rest, minFree := min s.pool.minFree rest.length
                  lowArmed := s.pool.lowArmed && !decide (rest.length < s.global.poolLowThreshold) }
        events := if s.pool.lowArmed = true ∧ rest.length < s.global.poolLowThreshold then
            (s.put .poolLow none (BitVec.ofNat 20 rest.length)).events
          else s.events } t

/-- Under policy STALL a write without a slot waits with the slot-wait timer, which starts, keeps running or restarts;
at its expiry the write is tracked and the stream in RESYNC (spec 1.6 Slot wait under policy STALL; spec 1.3
Disposition of a request; spec 1.4 Line hazards and notices; spec 3.4 The SEND state machine; spec 8.1 The dirty map;
NOTES logs 2, 4). -/
def Obligations.HeadWaitsForSlot : Prop :=
  (∀ (r : SpRequest) (i : StreamId) (s : State), s.headLacksSlot r i → s.sp.slotWait = none →
    ∃ t, exec (.headTaking r) s = .next t ∧ s.keptHead t [r] (some (s.slotWaitFrom i))) ∧
  (∀ (r head : SpRequest) (rest : List SpRequest) (i : StreamId) (s : State), s.live → s.settled →
    s.sp.channel = head :: rest → r.wf = true → s.noChannel.headLacksSlot head i →
    (s.sp.slotWait = none →
      ∃ t, exec (.headTaking r) s = .next t ∧ s.keptHead t (head :: rest ++ [r]) (some (s.slotWaitFrom i))) ∧
    ∀ w, s.sp.slotWait = some w →
      (w.stream = i → ∃ t, exec (.headTaking r) s = .next t ∧ s.keptHead t (head :: rest ++ [r]) (some w)) ∧
      (w.stream ≠ i →
        ∃ t, exec (.headTaking r) s = .next t ∧ s.keptHead t (head :: rest ++ [r]) (some (s.slotWaitFrom i)))) ∧
  ∀ (r : SpRequest) (rest : List SpRequest) (w : SlotWait) (s : State), s.live → s.sp.slotWait = some w →
    s.sp.channel = r :: rest → r.isWrite = true →
    ((s.stream w.stream).state = .resync ∨ (s.stream w.stream).state = .active) →
    ∃ u, exec .slotWaitTimerExpiry s = .next (settle u) ∧ s.markedAndPerformed u w.stream r.addr ∧
      u = { s with
        sp := { s.sp with channel := rest, slotWait := none }
        mp := s.mp.joined r (.tracked w.stream ((s.stream w.stream).cfg.lineIndex r.addr))
        streams := u.streams, owed := u.owed, engine := u.engine, audit := u.audit, events := u.events }

/-- A GATED write whose gate is closed is held in the free hold slot of lowest number with its mark and deadline, and
its line enters the held-line set (spec 7.1 Gate marks and the gate check; spec 7.2 Hold slots; spec 2.6 Combine hold;
spec 1.4 Line hazards and notices). -/
def Obligations.GatedWriteHeld : Prop :=
  ∀ (r : SpRequest) (lanes : List Lane) (i : StreamId) (k : Fin 4) (s : State), s.headInWindow r .gated i →
    r.op = .write lanes → ((s.stream i).state = .resync ∨ (s.stream i).state = .active) →
    ¬((s.stream i).state = .active ∧ (s.stream i).markReached (s.stream i).gateMark = true) →
    s.hold k = none → (∀ j, j < k → s.hold j ≠ none) →
    ∃ t, exec (.headTaking r) s = .next t ∧
      ((s.setHold k (some
          { tag := r.tag, addr := r.addr, lanes := lanes, stream := i, session := (s.stream i).session
            mark := ((s.stream i).sendList.filter (fun y => !y.discard)).getLast?.map Record.seq
            deadline := s.events.time + BitVec.ofNat 32 s.global.holdTimeout, order := s.heldCount + 1 })).setStream i
        { s.stream i with sendList := (s.stream i).sendList.map (fun x : Record => { x with deadline := none }) }).tookHead t ∧
      t.heldLine (lineOf r.addr) = true

/-- A GATED write in OPENING, DEGRADED or CLOSING and a GUARDED write in LISTEN or BOUND are answered ERROR with
GATE_REFUSED or GUARD_VIOLATION (spec 1.3 Disposition of a request; spec 11.4 The Event Queue and ALERT_N). -/
def Obligations.RefusedHead : Prop :=
  ∀ (r : SpRequest) (i : StreamId) (s : State),
    (s.headInWindow r .gated i →
      ((s.stream i).state = .opening ∨ (s.stream i).state = .degraded ∨ (s.stream i).state = .closing) →
      ∃ t, exec (.headTaking r) s = .next t ∧
        State.tookHead { s with
          sp := { s.sp with responses := s.sp.responses ++ [{ tag := r.tag, status := .error, data := [] }] }
          events := (s.put .gateRefused (some i) (BitVec.ofNat 20 (s.stream i).state.code)).events } t) ∧
    (s.headInWindow r .guarded i → ((s.stream i).state = .listen ∨ (s.stream i).state = .bound) →
      ∃ t, exec (.headTaking r) s = .next t ∧
        State.tookHead { s with
          sp := { s.sp with responses := s.sp.responses ++ [{ tag := r.tag, status := .error, data := [] }] }
          events := (s.put .guardViolation (some i) ((s.stream i).cfg.lineIndex r.addr)).events } t)

/-- A delivery sends the oldest SP response; a combine deadline's expiry ends the stream's holds; a hold deadline's
expiry answers ERROR with GATE_TIMEOUT (spec 1.1 Requests at the System Port; spec 2.6 Combine hold; spec 7.4 Hold
expiry; NOTES logs 2, 4, 8, 10). -/
def Obligations.ResponseAndDeadlines : Prop :=
  (∀ (x : SpResponse) (rest : List SpResponse) (s : State), s.resetAsserted = false → s.sp.responses = x :: rest →
     exec .spResponseDelivery s =
       .next (settle { s with sp := { s.sp with responses := rest }, out := { s.out with spResponse := some x } })) ∧
  ((∀ (i : StreamId) (s : State), s.live → (∃ r ∈ (s.stream i).sendList, r.deadline ≠ none) →
     exec (.combineDeadlineExpiry i) s =
       .next (settle (s.setStream i { s.stream i with
         sendList := (s.stream i).sendList.map (fun r : Record => { r with deadline := none }) }))) ∧
   ∀ (k : Fin 4) (h : HeldWrite) (s : State), s.live → s.hold k = some h →
     ∃ u, exec (.holdDeadlineExpiry k) s = .next (settle u) ∧ u.hold k = none ∧
       (∀ j, j ≠ k → u.hold j =
         (s.hold j).map (fun w => { w with order := if h.order < w.order then w.order - 1 else w.order })) ∧
       u = { s with
         holds := u.holds
         sp := { s.sp with responses := s.sp.responses ++ [{ tag := h.tag, status := .error, data := [] }] }
         events := (s.put .gateTimeout (some h.stream) ((s.stream h.stream).cfg.lineIndex h.addr)).events })

/-! ### The Memory Port -/

/-- MP_GRANT of the through queue issues its oldest request with its SP tag; a copy read waiting for its line goes on;
with nothing waiting nothing happens (spec 10.2 The through queue; spec 10.3 The MP arbiter; spec 8.3 The copy read;
NOTES logs 4, 10, 47). -/
def Obligations.ThroughGrant : Prop :=
  (∀ (q : ThroughReq) (rest : List ThroughReq) (s : State), s.resetAsserted = false →
    s.mp.throughQueue = q :: rest → (s.mp.lastSide = .internal ∨ s.internalWaits = false) →
    ∃ u, exec .mpGrant s = .next (settle u) ∧
      u = { s with
        mp := { s.mp with
          throughQueue := rest, lastSide := .through
          outstanding := s.mp.outstanding ++ [{ tag := Fin.ofNat 32 q.req.tag.val, addr := q.req.addr, op := q.req.op
                                                owner := .through q.use }] }
        out := { s.out with mpRequest := some { tag := Fin.ofNat 32 q.req.tag.val, addr := q.req.addr, op := q.req.op
                                                owner := .through q.use } }
        engine := u.engine } ∧
      ((∀ i, s.engine.state ≠ .waiting i) → u.engine = s.engine) ∧
      (∀ i, s.softReset = false → s.engine.state = .waiting i → u.copyLinePending i = false →
        u.engine = { s.engine with
          state := if s.slotAllowed i = true then .requested i (s.stream i).session else .idle }) ∧
      (∀ i, s.engine.state = .waiting i → u.copyLinePending i = true → u.engine = s.engine)) ∧
  ∀ s : State, s.resetAsserted = false → s.mp.throughQueue = [] → s.internalWaits = false →
    exec .mpGrant s = .next (settle s)

/-- MP_GRANT of the internal side: the apply write before the readers, then the copy, initiator and responder reads in
turn, each with its tag, address and bytes (spec 10.1 Requests and tags; spec 10.3 The MP arbiter; spec 6.3 Writing
to memory; spec 8.3 The copy read; spec 9.2 Reading the local range; spec 9.4 The responder job; NOTES logs 4, 10,
47, 48). -/
def Obligations.InternalGrants : Prop :=
  (∀ (e : ApplyEntry) (t : MpTag) (s : State), s.live → (s.mp.throughQueue = [] ∨ s.mp.lastSide = .through) →
     s.apply.queue.find? (fun e => e.progress == .waiting) = some e → e.stale = false →
     (s.stream e.stream).state = .bound → (s.stream e.stream).session = e.session → e.kind ≠ .void →
     s.applyOutstanding < 4 → 16 ≤ t.val → t.val ≤ 19 → (∀ m ∈ s.mp.outstanding, m.tag ≠ t) →
     (∀ x : MpTag, 16 ≤ x.val → x < t → ∃ m ∈ s.mp.outstanding, m.tag = x) →
     ∃ (u : State) (m : MpRequest), exec .mpGrant s = .next (settle u) ∧ m.tag = t ∧ m.owner = .apply ∧
       m.addr = (s.stream e.stream).cfg.extentBase + BitVec.ofNat 36 (64 * e.line.toNat) ∧
       m.op = .write ((List.range 64).map (fun n => match e.payload.at? n with
         | some b => { data := b, strobe := true }
         | none => { data := Config.freeByte s.choices n, strobe := false })) ∧
       u = { s with
         apply := { s.apply with queue := issueFirst t s.apply.queue }
         mp := { s.mp with outstanding := s.mp.outstanding ++ [m], lastSide := .internal }
         out := { s.out with mpRequest := some m }
         choices := s.choices + 1
         audit := { s.audit with responder := { s.audit.responder with
           disturbed := s.audit.responder.disturbed ||
             (s.audit.responder.state == .reading && s.inResponderRange m.addr) } } }) ∧
  (∀ s : State, s.live → (s.mp.throughQueue = [] ∨ s.mp.lastSide = .through) → s.applyRequest = false →
     (∀ (i : StreamId) (p : CopyPos), (readersAfter s.mp.readerPointer).find? s.readerStands = some .copy →
       s.engine.state = .requested i (s.stream i).session → (s.stream i).copyPos = some p →
       (s.stream i).state = .resync →
       let line := p.granule * (s.stream i).cfg.linesPerGranule + p.line
       let a := (s.stream i).cfg.extentBase + BitVec.ofNat 36 (64 * line)
       (s.linePending a = false →
         exec .mpGrant s = .next (settle { s with
           engine := { state := .reading { stream := i, session := (s.stream i).session, line := BitVec.ofNat 20 line
                                           lineAddr := a, spoiled := false }
                       pointer := i }
           mp := { s.mp with outstanding := s.mp.outstanding ++ [lineRead 20 a .copy], lastSide := .internal
                             readerPointer := .copy }
           out := { s.out with mpRequest := some (lineRead 20 a .copy) } })) ∧
       (s.linePending a = true →
         exec .mpGrant s = exec .mpGrant { s with engine := { s.engine with state := .waiting i } })) ∧
     ((readersAfter s.mp.readerPointer).find? s.readerStands = some .initiator →
       exec .mpGrant s = .next (settle { s with
         audit := { s.audit with initiator := { s.audit.initiator with readOut := .current } }
         mp := { s.mp with outstanding := s.mp.outstanding ++ [lineRead 21 s.initiatorAddr .initiator]
                           lastSide := .internal, readerPointer := .initiator }
         out := { s.out with mpRequest := some (lineRead 21 s.initiatorAddr .initiator) } })) ∧
     ((readersAfter s.mp.readerPointer).find? s.readerStands = some .responder →
       exec .mpGrant s = .next (settle { s with
         audit := { s.audit with responder := { s.audit.responder with readOut := .current } }
         mp := { s.mp with outstanding := s.mp.outstanding ++ [lineRead 22 s.responderAddr .responder]
                           lastSide := .internal, readerPointer := .responder }
         out := { s.out with mpRequest := some (lineRead 22 s.responderAddr .responder) } })))

/-- An MP response to a through request without a record answers its SP tag; a tracked ERROR raises MEM_ERROR; an
unknown tag changes nothing (spec 10.5 Responses; spec 10.1 Requests and tags; NOTES logs 4, 26). -/
def Obligations.ThroughResponse : Prop :=
  ∀ (t : MpTag) (st : Status) (d : LineBytes) (s : State), s.resetAsserted = false →
    ((∀ m ∈ s.mp.outstanding, m.tag ≠ t) → exec (.mpResponse t st d) s = .next (settle s)) ∧
    ∀ m, s.mp.outstanding.find? (fun m => m.tag == t) = some m →
      (m.owner = .through .plain →
        exec (.mpResponse t st d) s = .next (settle { s with
          mp := { s.mp with outstanding := s.mp.outstanding.filter (fun m => m.tag != t) }
          sp := { s.sp with responses := s.sp.responses ++
            [{ tag := Fin.ofNat 16 t.val, status := st, data := responseData m.op m.addr st d }] } })) ∧
      ∀ i line, m.owner = .through (.tracked i line) →
        exec (.mpResponse t st d) s = .next (settle { s with
          mp := { s.mp with outstanding := s.mp.outstanding.filter (fun m => m.tag != t) }
          sp := { s.sp with responses := s.sp.responses ++
            [{ tag := Fin.ofNat 16 t.val, status := st, data := responseData m.op m.addr st d }] }
          events := if st = .error then (s.put .memError (some i) line).events else s.events })

/-- A bound write's completion counts its record down: READY or freed on OKAY; on ERROR VOID or, flagged, freed, with
the granule marked, MEM_ERROR and ACTIVE to RESYNC (spec 2.5 Local completion; spec 10.5 Responses; spec 3.4 The
SEND state machine; spec 8.1 The dirty map; NOTES logs 4, 22, 40, 41). -/
def Obligations.LocalCompletion : Prop :=
  (∀ (t : MpTag) (d : LineBytes) (m : MpRequest) (i : StreamId) (slot : Nat) (y : Record) (s : State),
     s.resetAsserted = false → s.mp.outstanding.find? (fun m => m.tag == t) = some m →
     m.owner = .through (.bound i slot) → (s.stream i).sendList.find? (fun x => x.slot == slot) = some y →
     let left := closeUp ((s.stream i).sendList.filter (fun x => x.slot != slot))
     let drained := (s.stream i).state = .closing ∧ left = []
     ∃ u, exec (.mpResponse t .okay d) s = .next (settle u) ∧
       u = { s with
         mp := { s.mp with outstanding := s.mp.outstanding.filter (fun m => m.tag != t) }
         sp := { s.sp with responses := s.sp.responses ++
           [{ tag := Fin.ofNat 16 t.val, status := .okay, data := responseData m.op m.addr .okay d }] }
         streams := u.streams, pool := u.pool } ∧
       (∀ j, j ≠ i → u.stream j = s.stream j) ∧
       (y.discard = false → u.pool = s.pool ∧ u.stream i = { s.stream i with
         sendList := (s.stream i).sendList.map (fun x : Record =>
           if x.slot = slot then
             { x with pendingWrites := x.pendingWrites - 1
                      state := if x.pendingWrites - 1 = 0 ∧ x.state = .captured then .ready else x.state }
           else x) }) ∧
       (y.discard = true → 1 < y.pendingWrites → s.poolPartitioned → u.pool = s.pool ∧ u.stream i = { s.stream i with
         sendList := (s.stream i).sendList.map (fun x : Record =>
           if x.slot = slot then { x with pendingWrites := x.pendingWrites - 1 } else x) }) ∧
       (y.discard = true → y.pendingWrites = 1 → u.pool = s.pool.freed s.global.poolLowThreshold [slot] ∧
         u.stream i = { s.stream i with
           sendList := left, retryCount := if drained then 0 else (s.stream i).retryCount
           handshakeDue := (s.stream i).handshakeDue || decide drained })) ∧
  (∀ (t : MpTag) (d : LineBytes) (m : MpRequest) (i : StreamId) (slot : Nat) (y : Record) (s : State),
     s.resetAsserted = false → s.mp.outstanding.find? (fun m => m.tag == t) = some m →
     m.owner = .through (.bound i slot) → (s.stream i).sendList.find? (fun x => x.slot == slot) = some y →
     y.discard = false →
     ∃ u, exec (.mpResponse t .error d) s = .next (settle u) ∧
       u = { s with
         mp := { s.mp with outstanding := s.mp.outstanding.filter (fun m => m.tag != t) }
         sp := { s.sp with responses := s.sp.responses ++
           [{ tag := Fin.ofNat 16 t.val, status := .error, data := responseData m.op m.addr .error d }] }
         streams := u.streams, events := u.events, owed := u.owed, audit := u.audit } ∧
       (∀ j, j ≠ i → u.stream j = s.stream j) ∧
       u.stream i = { s.stream i with
         sendList := (s.stream i).sendList.map (fun x : Record =>
           if x.slot = slot then
             { x with kind := .void, payload := [], pendingWrites := x.pendingWrites - 1
                      state := if x.pendingWrites - 1 = 0 ∧ x.state = .captured then .ready else x.state }
           else x)
         dirty := (u.stream i).dirty, state := (u.stream i).state, cause := (u.stream i).cause
         reason := (u.stream i).reason } ∧
       (u.stream i).dirty = (match (s.stream i).state with
         | .opening | .resync | .active | .degraded =>
           insertGranule ((s.stream i).cfg.granuleOf y.line) (s.stream i).dirty
         | .off | .closing | .listen | .bound => (s.stream i).dirty) ∧
       ((s.stream i).state = .active → (u.stream i).state = .resync ∧ (u.stream i).cause = .dirty ∧
         (u.stream i).reason = .none ∧ u.owed = s.owed ++ [stateEvent i .resync .dirty .none] ∧
         ∃ w : State, s.auditLeft w i ∧ u.audit = w.audit ∧
           u.events = (w.put .memError (some i) y.line).events) ∧
       ((s.stream i).state ≠ .active → (u.stream i).state = (s.stream i).state ∧
         (u.stream i).cause = (s.stream i).cause ∧ (u.stream i).reason = (s.stream i).reason ∧ u.owed = s.owed ∧
         u.audit = s.audit ∧ u.events = (s.put .memError (some i) y.line).events)) ∧
  (∀ (t : MpTag) (d : LineBytes) (m : MpRequest) (i : StreamId) (slot : Nat) (y : Record) (s : State),
     s.resetAsserted = false → s.mp.outstanding.find? (fun m => m.tag == t) = some m →
     m.owner = .through (.bound i slot) → (s.stream i).sendList.find? (fun x => x.slot == slot) = some y →
     y.discard = true →
     let left := closeUp ((s.stream i).sendList.filter (fun x => x.slot != slot))
     let drained := (s.stream i).state = .closing ∧ left = []
     let moves := (s.stream i).state = .active
     let marked : Stream := { s.stream i with
       dirty := (match (s.stream i).state with
         | .opening | .resync | .active | .degraded =>
           insertGranule ((s.stream i).cfg.granuleOf y.line) (s.stream i).dirty
         | .off | .closing | .listen | .bound => (s.stream i).dirty)
       state := if moves then .resync else (s.stream i).state
       cause := if moves then .dirty else (s.stream i).cause
       reason := if moves then .none else (s.stream i).reason }
     ∃ u, exec (.mpResponse t .error d) s = .next (settle u) ∧
       u = { s with
         mp := { s.mp with outstanding := s.mp.outstanding.filter (fun m => m.tag != t) }
         sp := { s.sp with responses := s.sp.responses ++
           [{ tag := Fin.ofNat 16 t.val, status := .error, data := responseData m.op m.addr .error d }] }
         streams := u.streams, pool := u.pool, events := u.events, owed := u.owed, audit := u.audit } ∧
       (∀ j, j ≠ i → u.stream j = s.stream j) ∧
       (1 < y.pendingWrites → s.poolPartitioned → u.pool = s.pool ∧
         u.stream i = { marked with
           sendList := (s.stream i).sendList.map (fun x : Record =>
             if x.slot = slot then { x with pendingWrites := x.pendingWrites - 1 } else x) }) ∧
       (y.pendingWrites = 1 → u.pool = s.pool.freed s.global.poolLowThreshold [slot] ∧
         u.stream i = { marked with
           sendList := left, retryCount := if drained then 0 else (s.stream i).retryCount
           handshakeDue := (s.stream i).handshakeDue || decide drained }) ∧
       (moves → u.owed = s.owed ++ [stateEvent i .resync .dirty .none] ∧
         State.auditLeft { s with events := (s.put .memError (some i) y.line).events } u i) ∧
       (¬ moves → u.owed = s.owed ∧
         u.audit = s.audit ∧ u.events = (s.put .memError (some i) y.line).events))

/-- An apply write's response marks its entry done; the head's retirement returns a credit and moves applied seq, or on
ERROR leaves BOUND (spec 6.3 Writing to memory; spec 6.4 ACK and NAK frames; spec 6.5 Link and stream events; spec
9.4 The responder job; NOTES logs 4, 24, 45). -/
def Obligations.ApplyCompletionAndRetirement : Prop :=
  (∀ (t : MpTag) (st : Status) (d : LineBytes) (m : MpRequest) (s : State), s.resetAsserted = false →
     s.mp.outstanding.find? (fun m => m.tag == t) = some m → m.owner = .apply →
     exec (.mpResponse t st d) s = .next (settle { s with
       mp := { s.mp with outstanding := s.mp.outstanding.filter (fun m => m.tag != t) }
       apply := { s.apply with queue := s.apply.queue.map (fun e =>
         if e.progress = .issued t then { e with progress := .done (if st = .okay then .okay else .error) }
         else e) } })) ∧
  (∀ (e : ApplyEntry) (o : ApplyOutcome) (s : State),
     let retired : ApplyEngine :=
       { queue := s.apply.queue.tail
         pendingCredits := if s.link.state = .up then min 32 (s.apply.pendingCredits + 1) else s.apply.pendingCredits }
     (e.stale = true ∨ (s.stream e.stream).state ≠ .bound ∨ (s.stream e.stream).session ≠ e.session →
       s.retire e o = { s with
         apply := retired
         events := if o = .error then (s.put .applyError (some e.stream) e.line).events else s.events }) ∧
     (e.stale = false → (s.stream e.stream).state = .bound → (s.stream e.stream).session = e.session →
       (o = .okay →
         ((s.retire e o).stream e.stream = { s.stream e.stream with
           appliedSeq := e.seq, unacked := min 255 ((s.stream e.stream).unacked + 1)
           ackDelayTimer := if (s.stream e.stream).unacked = 0 then s.startTimer s.global.ackDelay
             else (s.stream e.stream).ackDelayTimer
           ackCount := if s.global.ackBatch ≤ min 255 ((s.stream e.stream).unacked + 1) ∧
               (s.stream e.stream).ackCount = 0 then 1 else (s.stream e.stream).ackCount }) ∧
         (s.retire e o).apply = retired ∧
         (s.audit.responder.state = .armed → s.audit.responder.stream = e.stream →
           s.audit.responder.session = e.session → s.audit.responder.mark = e.seq →
           (s.retire e o).audit.responder.state = .reading)) ∧
       (o = .error →
         State.leftBound { s with
           apply := retired
           events := (s.put .applyError (some e.stream) e.line).events
           streams := (s.setStream e.stream { s.stream e.stream with
             nakSlot := some { target := (s.stream e.stream).cfg.peer, session := e.session
                               body := .refused .memory } }).streams }
           (s.retire e o) e.stream .listen .applyRefused .memory))) ∧
  ∀ (e : ApplyEntry) (rest : List ApplyEntry) (o : ApplyOutcome) (s : State), s.live →
    s.passEntries s.apply.queue = e :: rest → e.progress = .done o →
    settle s = settle (State.retire { s with apply := { s.apply with queue := e :: rest } } e o)

/-- A copy read's response: dropped when stale, spoiled or without a slot, DEGRADED by COPY_ERROR, or a READY COPY
record and the next line (spec 8.3 The copy read; spec 2.3 Creating records; spec 8.4 Streams leaving RESYNC; spec 3.4
The SEND state machine; spec 7.3 Release; NOTES logs 4, 9). -/
def Obligations.CopyReadResponse : Prop :=
  ∀ (st : Status) (d : LineBytes) (m : MpRequest) (r : CopyRead) (s : State), s.live →
    s.mp.outstanding.find? (fun m => m.tag == 20) = some m → m.owner = .copy → s.engine.state = .reading r →
    let v := { s with
      mp := { s.mp with outstanding := s.mp.outstanding.filter (fun m => m.tag != 20) }
      engine := { s.engine with state := .idle } }
    let current := (s.stream r.stream).state = .resync ∧ (s.stream r.stream).session = r.session
    (¬ current → exec (.mpResponse 20 st d) s = .next (settle
      { v with events := if st = .error then (s.put .memError (some r.stream) r.line).events else s.events })) ∧
    (current → st = .error → ∃ u, exec (.mpResponse 20 st d) s = .next (settle u) ∧
      State.enteredDegraded { v with events := (s.put .memError (some r.stream) r.line).events } u r.stream
        .copyError .none) ∧
    (current → st = .okay → (r.spoiled = true ∨ s.slotAllowed r.stream = false) →
      exec (.mpResponse 20 st d) s = .next (settle v)) ∧
    (current → st = .okay → r.spoiled = false → s.slotAllowed r.stream = true →
      ∀ slot rest p, s.pool.freeList = slot :: rest → (s.stream r.stream).copyPos = some p →
      let a := v.appended r.stream rest
        { slot := slot, stream := r.stream, session := r.session, seq := (s.stream r.stream).nextSeq, kind := .copy
          line := r.line, payload := Payload.ofLine d, state := .ready, pendingWrites := 0, discard := false
          deadline := none }
      ∃ u, exec (.mpResponse 20 st d) s = .next (settle u) ∧
        (¬(p.line + 1 = (s.stream r.stream).cfg.linesPerGranule ∧ (s.stream r.stream).dirty = []) →
          p.line < (s.stream r.stream).cfg.linesPerGranule →
          u = a.setStream r.stream { a.stream r.stream with
            copyPos := if p.line + 1 < (s.stream r.stream).cfg.linesPerGranule then some { p with line := p.line + 1 }
              else none }) ∧
        (p.line + 1 = (s.stream r.stream).cfg.linesPerGranule → (s.stream r.stream).dirty = [] →
          (∀ k h, s.hold k = some h → h.stream ≠ r.stream) →
          u.pool.freeList = rest ∧ (∀ j, j ≠ r.stream → u.stream j = s.stream j) ∧
            (u.stream r.stream).state = .active ∧ (u.stream r.stream).cause = .clean ∧
            (u.stream r.stream).copyPos = none ∧
            (u.stream r.stream).sendList.length = (s.stream r.stream).sendList.length + 1 ∧
            u.owed = s.owed ++ [stateEvent r.stream .active .clean .none]) ∧
        (p.line + 1 = (s.stream r.stream).cfg.linesPerGranule → (s.stream r.stream).dirty = [] → ∃ w,
          w.releasedInOrder (s.heldSlots r.stream) u ∧
          (seqAtOrAfter (s.stream r.stream).ackedSeq (s.stream r.stream).nextSeq = false → u = w) ∧
          (∀ k, w.hold k = (s.hold k).map (fun h =>
            if h.stream = r.stream then { h with mark := some (s.stream r.stream).nextSeq } else h)) ∧
          w = { a.setStream r.stream { a.stream r.stream with
                  state := .active, cause := .clean, reason := .none, copyPos := none } with
                holds := w.holds, owed := s.owed ++ [stateEvent r.stream .active .clean .none] }))

/-- An audit read's response: dropped for an ended job, ends its job on ERROR, else enters the CRC; the last line ends
READING (spec 9.2 Reading the local range; spec 9.3 The answer and the end of a job; spec 9.4 The responder job; NOTES
logs 4, 17). -/
def Obligations.AuditReadResponse : Prop :=
  ∀ (st : Status) (d : LineBytes) (m : MpRequest) (s : State), s.resetAsserted = false →
    let j := s.audit.initiator
    let q := s.audit.responder
    (s.mp.outstanding.find? (fun m => m.tag == 21) = some m → m.owner = .initiator →
      let v := { s with
        mp := { s.mp with outstanding := s.mp.outstanding.filter (fun m => m.tag != 21) }
        audit := { s.audit with initiator := { j with readOut := .none } } }
      (s.softReset = true ∨ j.readOut ≠ .current → exec (.mpResponse 21 st d) s = .next (settle v)) ∧
      (s.softReset = false → j.readOut = .current →
        (st = .error → ∃ u, exec (.mpResponse 21 st d) s = .next (settle u) ∧
          v.jobEnded u .aborted .memory none none) ∧
        let read := { j with readOut := .none, crc := crcRun j.crc d.toList, nextLine := j.nextLine + 1 }
        let w := { v with audit := { s.audit with initiator := read } }
        (st = .okay → j.nextLine + 1 < j.firstLine + j.lineCount → exec (.mpResponse 21 st d) s = .next (settle w)) ∧
        (st = .okay → j.firstLine + j.lineCount ≤ j.nextLine + 1 → j.disturbed = true →
          ∃ u, exec (.mpResponse 21 st d) s = .next (settle u) ∧ w.jobEnded u .disturbed .localChange none none) ∧
        (st = .okay → j.firstLine + j.lineCount ≤ j.nextLine + 1 → j.disturbed = false →
          exec (.mpResponse 21 st d) s = .next (settle { v with
            audit := { s.audit with initiator := { read with
              state := .waiting, mark := (s.stream j.stream).nextSeq - 1
              timer := s.startTimer (s.global.auditTimeout * 1000), dgqDue := true } }
            link := { s.link with class4 :=
              if .dgq ∈ s.link.class4 then s.link.class4 else s.link.class4 ++ [.dgq] } })))) ∧
    (s.mp.outstanding.find? (fun m => m.tag == 22) = some m → m.owner = .responder →
      let v := { s with
        mp := { s.mp with outstanding := s.mp.outstanding.filter (fun m => m.tag != 22) }
        audit := { s.audit with responder := { q with readOut := .none } } }
      (s.softReset = true ∨ q.readOut ≠ .current → exec (.mpResponse 22 st d) s = .next (settle v)) ∧
      (s.softReset = false → q.readOut = .current →
        (st = .error → ∃ u, exec (.mpResponse 22 st d) s = .next (settle u) ∧
          v.responderEnded u .refused .memory 0#32) ∧
        let w := { v with audit := { s.audit with
          responder := { q with readOut := .none, crc := crcRun q.crc d.toList, nextLine := q.nextLine + 1 } } }
        (st = .okay → q.nextLine + 1 < q.firstLine + q.lineCount → exec (.mpResponse 22 st d) s = .next (settle w)) ∧
        (st = .okay → q.firstLine + q.lineCount ≤ q.nextLine + 1 → q.disturbed = true →
          ∃ u, exec (.mpResponse 22 st d) s = .next (settle u) ∧ w.responderEnded u .disturbed .apply 0#32) ∧
        (st = .okay → q.firstLine + q.lineCount ≤ q.nextLine + 1 → q.disturbed = false →
          ∃ u, exec (.mpResponse 22 st d) s = .next (settle u) ∧
            w.responderEnded u .ok .none (~~~(crcRun q.crc d.toList)))))

/-! ### The link transmit arbiter -/

/-- A requested HELLO is granted first, with the fields of TRAINING or of UP; nothing is granted in OFF or DOWN, nor
in UP before confirmed but a HELLO (spec 4.2 Training; spec 4.3 The link in UP; spec 4.6 The link transmit arbiter;
spec 12.1 Frame formats; NOTES logs 4, 7, 10). -/
def Obligations.HelloGranted : Prop :=
  ∀ s : State, s.live →
    (s.link.state = .training → s.link.helloRequest = true →
      exec .transmitGrant s = .next (settle { s with
        out := { s.out with frame := some (.hello
          { number := 0#8, senderUp := false, heard := s.link.heard && s.apply.queue.isEmpty
            count := BitVec.ofNat 8 (32 - s.apply.queue.length), identity := 0x06120001#32 }) }
        link := { s.link with
          helloRequest := false, heardSent := s.link.heardSent || (s.link.heard && s.apply.queue.isEmpty) } })) ∧
    (s.link.state = .up → s.link.helloRequest = true →
      exec .transmitGrant s = .next (settle { s with
        out := { s.out with frame := some (.hello
          { number := s.link.txNumber, senderUp := true, heard := true
            count := BitVec.ofNat 8 s.apply.pendingCredits, identity := 0x06120001#32 }) }
        link := { s.link with helloRequest := false, txNumber := s.link.txNumber + 1
                              keepaliveTimer := s.startTimer (s.global.keepalive * 10) }
        apply := { s.apply with pendingCredits := 0 } })) ∧
    ((s.link.state = .off ∨ s.link.state = .down ∨ (s.link.state = .training ∧ s.link.helloRequest = false) ∨
        (s.link.state = .up ∧ s.link.helloRequest = false ∧ s.link.confirmed = false)) →
      exec .transmitGrant s = .next (settle s))

/-- The oldest class 2 request is granted: an ACK with the applied seq, or the NAK of the stream's slot, each
returning the pending credits (spec 4.6 The link transmit arbiter; spec 6.4 ACK and NAK frames; spec 4.5 Credits;
NOTES logs 4, 7, 24). -/
def Obligations.AckNakGranted : Prop :=
  ∀ (i : StreamId) (rest : List AckNakReq) (s : State), s.grantsClasses →
    (s.link.class2 = .ack i :: rest →
      exec .transmitGrant s = .next (settle (State.setStream
        { s.sent (.ack { number := s.link.txNumber, target := (s.stream i).cfg.peer, origin := i
                         session := (s.stream i).session, seq := (s.stream i).appliedSeq
                         credit := BitVec.ofNat 8 s.apply.pendingCredits }) with
          link := { (s.sent (.ack { number := s.link.txNumber, target := (s.stream i).cfg.peer, origin := i
                                    session := (s.stream i).session, seq := (s.stream i).appliedSeq
                                    credit := BitVec.ofNat 8 s.apply.pendingCredits })).link with class2 := rest }
          apply := { s.apply with pendingCredits := 0 } }
        i { s.stream i with ackCount := (s.stream i).ackCount - 1, unacked := 0, ackDelayTimer := none }))) ∧
    ∀ n, s.link.class2 = .nak i :: rest → (s.stream i).nakSlot = some n →
      ∃ kind value, exec .transmitGrant s = .next (settle (State.setStream
        { s.sent (.nak { number := s.link.txNumber, target := n.target, origin := i, session := n.session
                         kind := kind, value := value, credit := BitVec.ofNat 8 s.apply.pendingCredits }) with
          link := { s.link with class2 := rest, txNumber := s.link.txNumber + 1
                                keepaliveTimer := s.startTimer (s.global.keepalive * 10) }
          apply := { s.apply with pendingCredits := 0 } }
        i { s.stream i with nakSlot := none })) ∧
        (∀ e, n.body = .gap e → kind = 0#8 ∧ value = e) ∧
        (∀ r, n.body = .refused r → kind = 1#8 ∧ value = BitVec.ofNat 16 r.code)

/-- The oldest class 3 request is granted when class 2 is empty, and the oldest class 4 request when class 3 is too,
each frame with its fields (spec 4.6 The link transmit arbiter; spec 3.2 Sessions, handshake frames and causes; spec
3.4 The SEND state machine; spec 9.3 The answer and the end of a job; spec 9.4 The responder job; NOTES logs 4, 7, 15,
20). -/
def Obligations.HandshakeAndAuditGranted : Prop :=
  (∀ (i target : StreamId) (ses : Session) (rest : List HandshakeReq) (s : State), s.grantsClasses →
     s.link.class2 = [] →
     let v := { s with link := { s.link with class3 := rest } }
     (s.link.class3 = .openDue i :: rest →
       exec .transmitGrant s = .next (settle (State.setStream
         (v.sent (.openStream { number := s.link.txNumber, target := (s.stream i).cfg.peer, origin := i
                                session := (s.stream i).session
                                sizeCode := BitVec.ofNat 8 (s.stream i).cfg.sizeCode }))
         i { s.stream i with
           handshakeDue := false, handshakeTimer := s.startTimer ((s.stream i).cfg.ackTimeout * 10) }))) ∧
     (s.link.class3 = .closeDue i :: rest →
       exec .transmitGrant s = .next (settle (State.setStream
         (v.sent (.close { number := s.link.txNumber, target := (s.stream i).cfg.peer, origin := i
                           session := (s.stream i).session }))
         i { s.stream i with
           handshakeDue := false, handshakeTimer := s.startTimer ((s.stream i).cfg.ackTimeout * 10)
           closeSent := true }))) ∧
     (s.link.class3 = .resetClose i ses :: rest →
       exec .transmitGrant s = .next (settle (v.sent (.close
         { number := s.link.txNumber, target := (s.stream i).cfg.peer, origin := i, session := ses })))) ∧
     (s.link.class3 = .opened i target ses :: rest →
       exec .transmitGrant s = .next (settle (v.sent (.opened
         { number := s.link.txNumber, target := target, origin := i, session := ses })))) ∧
     (∀ r, s.link.class3 = .refuse i target ses r :: rest →
       exec .transmitGrant s = .next (settle (v.sent (.refuse
         { number := s.link.txNumber, target := target, origin := i, session := ses
           reason := BitVec.ofNat 8 r.code })))) ∧
     (s.link.class3 = .closed i target ses :: rest →
       exec .transmitGrant s = .next (settle (v.sent (.closed
         { number := s.link.txNumber, target := target, origin := i, session := ses }))))) ∧
  (∀ (rest : List AuditReq) (s : State), s.grantsClasses → s.link.class2 = [] → s.link.class3 = [] →
     let v := { s with link := { s.link with class4 := rest } }
     let j := s.audit.initiator
     (s.link.class4 = .dgq :: rest →
       exec .transmitGrant s = .next (settle { v.sent (.dgq
           { number := s.link.txNumber, target := (s.stream j.stream).cfg.peer, origin := j.stream
             session := j.session, tag := j.tag, firstLine := BitVec.ofNat 20 j.firstLine
             lineCount := BitVec.ofNat 21 j.lineCount, mark := j.mark }) with
         audit := { s.audit with initiator := { j with dgqDue := false } } })) ∧
     (∀ a, s.link.class4 = .dgrResult :: rest → s.audit.resultSlot = some a →
       exec .transmitGrant s = .next (settle { v.sent (.dgr
           { number := s.link.txNumber, target := a.target, origin := a.stream, tag := a.tag
             status := BitVec.ofNat 8 a.status.code, reason := BitVec.ofNat 8 a.reason.code, digest := a.digest }) with
         audit := { s.audit with resultSlot := none } })) ∧
     (∀ a, s.link.class4 = .dgrImmediate :: rest → s.audit.immediateSlot = some a →
       exec .transmitGrant s = .next (settle { v.sent (.dgr
           { number := s.link.txNumber, target := a.target, origin := a.stream, tag := a.tag
             status := BitVec.ofNat 8 a.status.code, reason := BitVec.ofNat 8 a.reason.code, digest := a.digest }) with
         audit := { s.audit with immediateSlot := none } })))

/-- A REC is granted when no other class waits, credits remain and a stream has an eligible record, in turn; its
fields and its effects (spec 4.6 The link transmit arbiter; spec 5.2 Eligibility and taking; spec 5.5 The retransmit
timer and retry exhaustion; spec 4.5 Credits; NOTES logs 4, 7). -/
def Obligations.RecGranted : Prop :=
  ∀ s : State, s.grantsClasses → s.link.class2 = [] → s.link.class3 = [] → s.link.class4 = [] →
    (s.link.credits = 0 ∨ (∀ i, (s.stream i).candidate = none) → exec .transmitGrant s = .next (settle s)) ∧
    ∀ (i : StreamId) (q : Seq) (r : Record), 0 < s.link.credits →
      (cyclicAfter s.link.recPointer).find? (fun j => (s.stream j).candidate.isSome) = some i →
      (s.stream i).cfg.direction = .send →
      ((s.stream i).state = .resync ∨ (s.stream i).state = .active ∨ (s.stream i).state = .closing) →
      (s.stream i).cursor = some q →
      (s.stream i).sendList.find? (fun x => x.seq == q && !x.discard) = some r →
      (r.state = .sent ∨ (r.state = .ready ∧ r.deadline = none)) →
      exec .transmitGrant s = .next (settle (State.setStream
        { s.sent (.record { number := s.link.txNumber, target := (s.stream i).cfg.peer, origin := r.stream
                            session := r.session, seq := r.seq, kind := BitVec.ofNat 8 r.kind.code, line := r.line
                            mask := r.payload.mask, data := r.payload.data }) with
          link := { s.link with credits := s.link.credits - 1, recPointer := i, txNumber := s.link.txNumber + 1
                                keepaliveTimer := s.startTimer (s.global.keepalive * 10) } }
        i { s.stream i with
          sendList := (s.stream i).sendList.map (fun x : Record =>
            if x.slot = r.slot then { x with state := .sent } else x)
          sentSeq := if r.state = .ready then r.seq else (s.stream i).sentSeq
          cursor := followingSeq r.seq (s.stream i).sendList
          retransmitTimer := if (s.stream i).sendList.head?.map Record.slot = some r.slot then
              s.startTimer ((s.stream i).cfg.ackTimeout * 10)
            else (s.stream i).retransmitTimer }))

/-! ### Arriving frames -/

/-- Frames outside UP are discarded; in UP a wrong number, a failed check and an unknown kind retrain with their
causes (spec 4.3 The link in UP; spec 4.4 Retrain and DOWN; spec 12.1 Frame formats; NOTES log 4). -/
def Obligations.FramesNotAccepted : Prop :=
  (∀ (f : Frame) (s : State), (∀ h, f ≠ .hello h) → s.live →
    (s.link.state ≠ .up → exec f.arrival s = .next (settle s)) ∧
    (s.link.state = .up → f.number ≠ s.link.rxNumber →
      ∃ u, exec f.arrival s = .next (settle u) ∧ s.retrained u 2 none)) ∧
  (∀ s : State, s.live →
    (s.link.state = .off → exec .badFrameArrival s = .next (settle s)) ∧
    ((s.link.state = .down ∨ s.link.state = .training) → exec .badFrameArrival s =
      .next (settle { s with link := { s.link with frameErrors := min 65535 (s.link.frameErrors + 1) } })) ∧
    (s.link.state = .up → ∃ u, exec .badFrameArrival s = .next (settle u) ∧
      State.retrained { s with link := { s.link with frameErrors := min 65535 (s.link.frameErrors + 1) } } u 1
        none)) ∧
  ∀ (k : Byte) (s : State), (k = 0#8 ∨ 11 < k.toNat) → s.live →
    (s.link.state ≠ .up → exec (.unknownKindArrival k) s = .next (settle s)) ∧
    (s.link.state = .up → ∃ u, exec (.unknownKindArrival k) s = .next (settle u) ∧ s.retrained u 3 (some 1))

/-- HELLO in OFF, DOWN and TRAINING: ignored, taken, or the link reaches UP with its adverts, timers, event and what
the streams do (spec 4.2 Training; spec 4.5 Credits; spec 3.6 Link events and streams; spec 5.6 Link events; spec 12.1
Frame formats; NOTES logs 4, 16). -/
def Obligations.HelloInTraining : Prop :=
  ∀ (f : HelloFrame) (s : State), s.live →
    (s.link.state = .off → exec (.helloArrival f) s = .next (settle s)) ∧
    ((s.link.state = .down ∨ s.link.state = .training) → f.senderUp = false → 32 < f.count.toNat →
      exec (.helloArrival f) s = .next (settle s)) ∧
    ((f.senderUp = true ∨ f.count.toNat ≤ 32) →
      let advert := if f.senderUp then s.link.lastAdvert else f.count.toNat
      (s.link.state = .training → ¬(f.heard = true ∧ s.link.heardSent = true) →
        exec (.helloArrival f) s = .next (settle
          { s with link := { s.link with partnerId := f.identity, heard := true, lastAdvert := advert } })) ∧
      (s.link.state = .training → f.heard = true → s.link.heardSent = true → f.senderUp = false →
        ∃ u, exec (.helloArrival f) s = .next (settle u) ∧ s.reachedUp u f f.count.toNat 0#8) ∧
      (s.link.state = .training → f.heard = true → s.link.heardSent = true → f.senderUp = true →
        ∃ u v, exec (.helloArrival f) s = .next (settle u) ∧ s.reachedUp v f s.link.lastAdvert (f.number + 1) ∧
          (f.count = 0#8 → u = v) ∧ (f.count ≠ 0#8 → v.retrained u 5 (some 3))) ∧
      (s.link.state = .down →
        exec (.helloArrival f) s = .next (settle { s with
          link := { s.link with
            state := .training, partnerId := f.identity, heard := true
            lastAdvert := if f.senderUp then 0 else f.count.toNat
            heardSent := false, confirmed := false, credits := 0, txNumber := 0#8, rxNumber := 0#8
            keepaliveTimer := none, silenceTimer := none, downTimer := none
            trainingTimer := s.startTimer (s.global.trainingTimeout * 100), helloTimer := s.startTimer 10
            helloRequest := true }
          apply := { s.apply with pendingCredits := 0 } })))

/-- HELLO in UP: an UP HELLO in sequence returns credits or retrains; a TRAINING HELLO refreshes the adverts before
confirmed or retrains the link (spec 4.3 The link in UP; spec 4.5 Credits; spec 4.4 Retrain and DOWN; NOTES log 4). -/
def Obligations.HelloInUp : Prop :=
  ∀ (f : HelloFrame) (s : State), s.live → s.link.state = .up →
    (f.senderUp = true →
      (f.number = s.link.rxNumber → s.creditFits f.count →
        exec (.helloArrival f) s = .next (settle
          { s.credited f.count with link := { (s.credited f.count).link with partnerId := f.identity } })) ∧
      (f.number = s.link.rxNumber → ¬ s.creditFits f.count →
        ∃ u, exec (.helloArrival f) s = .next (settle u) ∧ s.atAcceptance.retrained u 5 (some 3)) ∧
      (f.number ≠ s.link.rxNumber → ∃ u, exec (.helloArrival f) s = .next (settle u) ∧ s.retrained u 2 none)) ∧
    (f.senderUp = false → 32 < f.count.toNat →
      exec (.helloArrival f) s = .next (settle
        { s with link := { s.link with silenceTimer := s.startTimer (s.global.silence * 10) } })) ∧
    (f.senderUp = false → f.count.toNat ≤ 32 →
      (s.link.confirmed = false → f.heard = true →
        exec (.helloArrival f) s = .next (settle { s with link := { s.link with
          silenceTimer := s.startTimer (s.global.silence * 10), lastAdvert := f.count.toNat
          credits := f.count.toNat, partnerId := f.identity, helloRequest := true } })) ∧
      ((s.link.confirmed = true ∨ f.heard = false) →
        ∃ u v, exec (.helloArrival f) s = .next (settle u) ∧ s.retrained v 7 none ∧
          u = { v with link := { v.link with
            partnerId := f.identity, heard := true, lastAdvert := f.count.toNat } }))

/-- An accepted REC: overflow retrains; records not expected are dropped with their credit and answered; the expected
one enters the Apply Queue (spec 6.2 Arrival of a REC frame; spec 6.4 ACK and NAK frames; spec 4.4 Retrain and DOWN;
NOTES logs 4, 39). -/
def Obligations.RecArrival : Prop :=
  ∀ (f : RecFrame) (s : State), s.accepts f.number →
    let a := s.atAcceptance
    let st := s.stream f.target
    let consistent := (f.kind = 0#8 ∧ f.mask ≠ 0#64) ∨ (f.kind = 1#8 ∧ f.mask = BitVec.allOnes 64) ∨
      (f.kind = 2#8 ∧ f.mask = 0#64)
    let dropped := { a with apply := s.apply.pended }
    (32 ≤ s.apply.queue.length → ∃ u, exec (.recArrival f) s = .next (settle u) ∧ a.retrained u 4 (some 2)) ∧
    (s.apply.queue.length < 32 → ¬ consistent → exec (.recArrival f) s = .next (settle dropped)) ∧
    (s.apply.queue.length < 32 → consistent →
      ((st.cfg.direction = .send ∨ st.state ≠ .bound) →
        exec (.recArrival f) s = .next (settle (dropped.setStream f.target { st with
          nakSlot := some { target := f.origin, session := f.session, body := .refused .notBound } }))) ∧
      (st.cfg.direction = .receive → st.state = .bound →
        ((f.session ≠ st.session ∨ f.origin ≠ st.cfg.peer) →
          exec (.recArrival f) s = .next (settle dropped)) ∧
        (f.session = st.session → f.origin = st.cfg.peer →
          (f.seq = st.acceptSeq → f.line.toNat < 64 * 2 ^ st.cfg.sizeCode →
            ∃ u kind, exec (.recArrival f) s = .next (settle u) ∧ BitVec.ofNat 8 kind.code = f.kind ∧
              u = State.setStream { a with apply := { s.apply with queue := s.apply.queue ++
                  [{ stream := f.target, session := f.session, seq := f.seq, kind := kind, line := f.line
                     payload := Payload.ofMask f.mask f.data, progress := .waiting, stale := false }] } }
                f.target { st with acceptSeq := st.acceptSeq + 1, nakOutstanding := false }) ∧
          (f.seq = st.acceptSeq → 64 * 2 ^ st.cfg.sizeCode ≤ f.line.toNat →
            ∃ u, exec (.recArrival f) s = .next (settle u) ∧
              State.leftBound (dropped.setStream f.target { st with
                nakSlot := some { target := f.origin, session := f.session, body := .refused .range } })
                u f.target .listen .applyRefused .range) ∧
          (seqBefore f.seq st.acceptSeq = true →
            exec (.recArrival f) s = .next (settle (dropped.setStream f.target
              { st with ackCount := min 63 (st.ackCount + 1) }))) ∧
          (seqAfter f.seq st.acceptSeq = true → st.nakOutstanding = false →
            exec (.recArrival f) s = .next (settle (dropped.setStream f.target { st with
              nakSlot := some { target := f.origin, session := f.session, body := .gap st.acceptSeq }
              nakOutstanding := true }))) ∧
          (seqAfter f.seq st.acceptSeq = true → st.nakOutstanding = true →
            exec (.recArrival f) s = .next (settle dropped)))))

/-- An accepted ACK: a credit overflow retrains, one not current or without progress only returns credits, one with
progress frees the acknowledged records (spec 5.3 Acknowledgement; spec 5.5 The retransmit timer and retry
exhaustion; spec 2.8 Flushing and freeing; spec 4.5 Credits; NOTES logs 4, 50). -/
def Obligations.AckArrival : Prop :=
  ∀ (f : AckFrame) (s : State), s.accepts f.number →
    let st := s.stream f.target
    let b := s.credited f.credit
    let current := st.cfg.direction = .send ∧ (st.state = .resync ∨ st.state = .active ∨ st.state = .closing) ∧
      f.session = st.session
    let progress := seqAfter f.seq st.ackedSeq = true ∧ seqAfter f.seq st.sentSeq = false
    let n := (f.seq - st.ackedSeq).toNat
    (¬ s.creditFits f.credit → ∃ u, exec (.ackArrival f) s = .next (settle u) ∧
      s.atAcceptance.retrained u 5 (some 3)) ∧
    (s.creditFits f.credit → ¬(current ∧ progress) → exec (.ackArrival f) s = .next (settle b)) ∧
    (s.creditFits f.credit → current → progress → (∀ k h, s.hold k = some h → h.stream ≠ f.target) →
      exec (.ackArrival f) s = .next (settle
        { b.setStream f.target { st with
            sendList := st.sendList.drop n, ackedSeq := f.seq, retryCount := 0
            cursor := match st.cursor with
              | none => none
              | some q => if (st.sendList.take n).any (fun r => r.seq == q && !r.discard) then
                  (st.sendList.drop n).head?.map Record.seq else some q
            retransmitTimer := if ∃ r ∈ st.sendList.drop n, r.state = .sent then
                s.startTimer (st.cfg.ackTimeout * 10) else none
            handshakeDue := st.handshakeDue || decide (st.state = .closing ∧ st.sendList.drop n = []) } with
          pool := s.pool.freed s.global.poolLowThreshold ((st.sendList.take n).map Record.slot) }))

/-- An ACK with progress tests the stream's held writes in taking order: each whose mark is reached in ACTIVE is merged,
recorded or tracked and performed; the others stay held (spec 7.3 Release; spec 2.3 Creating records; spec 2.4
Merging; spec 5.3 Acknowledgement; spec 1.4 Line hazards and notices; spec 8.1 The dirty map; NOTES logs 4, 9, 50). -/
def Obligations.HeldWriteReleased : Prop :=
  (∀ (f : AckFrame) (k : Fin 4) (h : HeldWrite) (s : State), s.accepts f.number → s.creditFits f.credit →
    let st := s.stream f.target
    let n := (f.seq - st.ackedSeq).toNat
    let line := st.cfg.lineIndex h.addr
    let slots := (st.sendList.take n).map Record.slot
    st.cfg.direction = .send → f.session = st.session → seqAfter f.seq st.ackedSeq = true →
    seqAfter f.seq st.sentSeq = false → s.hold k = some h → (∀ j, j ≠ k → s.hold j = none) → h.stream = f.target →
    (st.state = .active → h.session = st.session →
      (h.mark = none ∨ ∃ q, h.mark = some q ∧ seqAtOrAfter f.seq q = true) →
      st.sendList.length ≤ n → st.sendList ≠ [] → 0 < st.cfg.limit →
      (0 < st.cfg.reserve ∨ s.outsideDemand f.target < s.freeCount + st.sendList.length) →
      ∃ u slot, exec (.ackArrival f) s = .next (settle u) ∧ u.hold k = none ∧
        (s.pool.freeList ++ slots).head? = some slot ∧ u.pool.freeList = (s.pool.freeList ++ slots).tail ∧
        u.mp = s.mp.joined { tag := h.tag, addr := h.addr, op := .write h.lanes } (.bound f.target slot) ∧
        (u.stream f.target).sendList =
          [{ slot := slot, stream := f.target, session := st.session, seq := st.nextSeq, kind := .data, line := line
             payload := lanesPayload (bytePos h.addr) h.lanes, state := .captured, pendingWrites := 1
             discard := false
             deadline := if st.cfg.combineHold = 0 then none
               else some (s.events.time + BitVec.ofNat 32 st.cfg.combineHold) }] ∧
        (u.stream f.target).state = .active ∧ (u.stream f.target).ackedSeq = f.seq ∧
        u.engine = (s.perform (lineOf h.addr)).engine) ∧
    ((st.state = .resync ∨ (st.state = .active ∧ ∃ q, h.mark = some q ∧ seqAtOrAfter f.seq q = false)) →
      ∃ u, exec (.ackArrival f) s = .next (settle u) ∧ u.hold k = some h ∧ u.mp = s.mp ∧
        (u.stream f.target).ackedSeq = f.seq ∧ (u.stream f.target).sendList = st.sendList.drop n)) ∧
  (∀ (f : AckFrame) (s : State), s.accepts f.number → s.creditFits f.credit →
    let st := s.stream f.target
    let b := s.credited f.credit
    let n := (f.seq - st.ackedSeq).toNat
    st.cfg.direction = .send → (st.state = .resync ∨ st.state = .active) → f.session = st.session →
    seqAfter f.seq st.ackedSeq = true → seqAfter f.seq st.sentSeq = false →
    ∃ u, exec (.ackArrival f) s = .next (settle u) ∧
      State.releasedInOrder
        { b.setStream f.target { st with
            sendList := st.sendList.drop n, ackedSeq := f.seq, retryCount := 0
            cursor := match st.cursor with
              | none => none
              | some q => if (st.sendList.take n).any (fun r => r.seq == q && !r.discard) then
                  (st.sendList.drop n).head?.map Record.seq else some q
            retransmitTimer := if ∃ r ∈ st.sendList.drop n, r.state = .sent then
                s.startTimer (st.cfg.ackTimeout * 10) else none } with
          pool := s.pool.freed s.global.poolLowThreshold ((st.sendList.take n).map Record.slot) }
        (s.heldSlots f.target) u) ∧
  ∀ (i : StreamId) (s : State),
    (∀ k, k ∈ s.heldSlots i ↔ ∃ h, s.hold k = some h ∧ h.stream = i) ∧ (s.heldSlots i).Nodup ∧
      (s.heldSlots i).Pairwise (fun j k => ∀ g h, s.hold j = some g → s.hold k = some h → g.order ≤ h.order)

/-- An accepted NAK: credits first; one not current or out of range is set aside; GAP goes back, counts a retry or
exhausts it; REFUSED ends the sending (spec 5.4 Negative acknowledgement; spec 5.5 The retransmit timer and retry
exhaustion; spec 3.4 The SEND state machine; spec 4.5 Credits; NOTES logs 4, 36, 46, 50). -/
def Obligations.NakArrival : Prop :=
  ∀ (f : NakFrame) (s : State), s.accepts f.number →
    let st := s.stream f.target
    let b := s.credited f.credit
    let current := st.cfg.direction = .send ∧ (st.state = .resync ∨ st.state = .active ∨ st.state = .closing) ∧
      f.session = st.session
    let inRange := seqAfter f.value st.ackedSeq = true ∧ seqAfter f.value st.sentSeq = false
    let covered := ∃ q, st.cursor = some q ∧ seqAfter q f.value = false
    let timer := s.startTimer (st.cfg.ackTimeout * 10)
    (¬ s.creditFits f.credit → ∃ u, exec (.nakArrival f) s = .next (settle u) ∧
      s.atAcceptance.retrained u 5 (some 3)) ∧
    (s.creditFits f.credit →
      (¬ current ∨ 1 < f.kind.toNat ∨ (f.kind = 0#8 ∧ ¬ inRange) ∨ (f.kind = 1#8 ∧ nakReason f.value = none) →
        exec (.nakArrival f) s = .next (settle b)) ∧
      (current → f.kind = 0#8 → inRange →
        (covered → exec (.nakArrival f) s = .next (settle (b.setStream f.target { st with
          retransmitTimer := timer }))) ∧
        (¬ covered → st.retryCount + 1 < st.cfg.retryLimit →
          exec (.nakArrival f) s = .next (settle (b.setStream f.target { st with
            retryCount := st.retryCount + 1, cursor := some f.value, retransmitTimer := timer }))) ∧
        (¬ covered → st.cfg.retryLimit ≤ st.retryCount + 1 → st.state ≠ .closing →
          ∃ u, exec (.nakArrival f) s = .next (settle u) ∧
            b.enteredDegraded u f.target .retryExhausted .none) ∧
        (¬ covered → st.cfg.retryLimit ≤ st.retryCount + 1 → st.state = .closing →
          ∃ u, exec (.nakArrival f) s = .next (settle u) ∧
            (b.setStream f.target { st with retryCount := st.retryCount + 1 }).enteredOff u f.target
              .retryExhausted .none)) ∧
      (∀ r, current → f.kind = 1#8 → nakReason f.value = some r →
        (st.state ≠ .closing → ∃ u, exec (.nakArrival f) s = .next (settle u) ∧
          b.enteredDegraded u f.target .peerRefused r) ∧
        (st.state = .closing → ∃ u, exec (.nakArrival f) s = .next (settle u) ∧
          b.enteredOff u f.target .peerRefused r))) ∧
    (nakReason 5#16 = some .notBound ∧ nakReason 6#16 = some .range ∧ nakReason 7#16 = some .memory)

/-- An accepted OPEN is answered by Table 3-7: REFUSE with its reason, OPENED again, or OPENED with the stream bound
to the frame's session (spec 3.5 The RECEIVE state machine; spec 6.5 Link and stream events; NOTES logs 4, 6). -/
def Obligations.OpenArrival : Prop :=
  ∀ (f : OpenFrame) (s : State), s.accepts f.number →
    let st := s.stream f.target
    let a := s.atAcceptance
    let answered := fun q => Host.Outcome.next (φ := Fault) (ρ := Refusal)
      (settle { a with link := { a.link with class3 := s.link.class3 ++ [q] } })
    (st.cfg.direction = .send →
      exec (.openArrival f) s = answered (.refuse f.target f.origin f.session .direction)) ∧
    (st.cfg.direction = .receive → st.state = .off →
      exec (.openArrival f) s = answered (.refuse f.target f.origin f.session .notListening)) ∧
    (st.cfg.direction = .receive → st.state ≠ .off →
      (f.origin ≠ st.cfg.peer →
        exec (.openArrival f) s = answered (.refuse f.target f.origin f.session .peer)) ∧
      (f.origin = st.cfg.peer → st.cfg.sizeCode < f.sizeCode.toNat →
        exec (.openArrival f) s = answered (.refuse f.target f.origin f.session .size)) ∧
      (f.origin = st.cfg.peer → f.sizeCode.toNat ≤ st.cfg.sizeCode →
        (st.state = .bound → f.session = st.session →
          exec (.openArrival f) s = answered (.opened f.target f.origin f.session)) ∧
        (¬(st.state = .bound ∧ f.session = st.session) →
          ∃ u, exec (.openArrival f) s = .next (settle u) ∧
            u = { a.setStream f.target { st with
                    state := .bound, cause := .peerOpen, reason := .none, session := f.session, acceptSeq := 0#16
                    appliedSeq := 65535#16, nakOutstanding := false, unacked := 0, ackCount := 0
                    ackDelayTimer := none } with
                  apply := s.apply.staled f.target, audit := u.audit
                  link := { a.link with class3 := s.link.class3 ++ [.opened f.target f.origin f.session]
                                        class4 := u.link.class4 }
                  owed := s.owed ++ [stateEvent f.target .bound .peerOpen .none] } ∧
            s.responderLeft u f.target)))

/-- Accepted OPENED, REFUSE, CLOSE and CLOSED frames: what each does to its stream, or that it is discarded (spec 3.4
The SEND state machine; spec 3.5 The RECEIVE state machine; spec 3.2 Sessions, handshake frames and causes; NOTES logs
4, 20, 36). -/
def Obligations.HandshakeAnswers : Prop :=
  ((∀ (f : HandshakeFrame) (s : State), s.accepts f.number →
     let st := s.stream f.target
     let awaited := st.cfg.direction = .send ∧ st.state = .opening ∧ f.session = st.session
     let next := if st.dirty = [] then StreamState.active else .resync
     (¬ awaited → exec (.openedArrival f) s = .next (settle s.atAcceptance)) ∧
     (awaited → exec (.openedArrival f) s = .next (settle
       { s.atAcceptance.setStream f.target { st with
           state := next, cause := .opened, reason := .none, handshakeTimer := none, handshakeDue := false
           retryCount := 0 } with
         owed := s.owed ++ [stateEvent f.target next .opened .none] }))) ∧
   ∀ (f : RefuseFrame) (s : State), s.accepts f.number →
     let st := s.stream f.target
     let awaited := st.cfg.direction = .send ∧ st.state = .opening ∧ f.session = st.session
     (¬ awaited ∨ f.reason = 0#8 ∨ 4 < f.reason.toNat →
       exec (.refuseArrival f) s = .next (settle s.atAcceptance)) ∧
     ∀ r : Reason, awaited → (r = .notListening ∨ r = .direction ∨ r = .size ∨ r = .peer) →
       f.reason = BitVec.ofNat 8 r.code →
       ∃ u, exec (.refuseArrival f) s = .next (settle u) ∧
         s.atAcceptance.enteredDegraded u f.target .peerRefused r) ∧
  (∀ (f : HandshakeFrame) (s : State), s.accepts f.number →
     let st := s.stream f.target
     let a := s.atAcceptance
     (¬(st.cfg.direction = .receive ∧ f.session = st.session ∧ (st.state = .listen ∨ st.state = .bound)) →
       exec (.closeArrival f) s = .next (settle a)) ∧
     (st.cfg.direction = .receive → f.session = st.session →
       (st.state = .listen → exec (.closeArrival f) s = .next (settle
         { a with link := { a.link with class3 := s.link.class3 ++ [.closed f.target f.origin f.session] } })) ∧
       (st.state = .bound → ∃ u v, exec (.closeArrival f) s = .next (settle u) ∧
         a.leftBound v f.target .listen .peerClose .none ∧
         u = { v with link := { v.link with class3 := s.link.class3 ++ [.closed f.target f.origin f.session] } })) ∧
     (¬(st.cfg.direction = .send ∧ st.state = .closing ∧ f.session = st.session ∧ st.closeSent = true) →
       exec (.closedArrival f) s = .next (settle a)) ∧
     (st.cfg.direction = .send → st.state = .closing → f.session = st.session → st.closeSent = true →
       ∃ u, exec (.closedArrival f) s = .next (settle u) ∧ a.enteredOff u f.target .closed .none))

/-- An accepted DGQ is refused, answered busy or late, read at once or armed; a current DGR ends the initiator job with
its outcome, another is discarded (spec 9.3 The answer and the end of a job; spec 9.4 The responder job; NOTES logs
4, 46). -/
def Obligations.DigestArrivals : Prop :=
  (∀ (f : DgqFrame) (s : State), s.accepts f.number →
     let st := s.stream f.target
     let a := s.atAcceptance
     let notBound := st.cfg.direction = .send ∨ st.state ≠ .bound ∨ f.session ≠ st.session
     let range := f.lineCount = 0#21 ∨ 64 * 2 ^ st.cfg.sizeCode < f.firstLine.toNat + f.lineCount.toNat
     let busy := s.audit.responder.state ≠ .idle
     let answered := fun st r => ∃ u, exec (.dgqArrival f) s = .next (settle u) ∧
       .dgrImmediate ∈ u.link.class4 ∧ u.streams = s.streams ∧ u.events = s.events ∧
       u.audit = { s.audit with
         immediateSlot := some (DgrAnswer.mk f.target f.origin f.tag st r 0#32) }
     let taken := { s.audit.responder with
       stream := f.target, session := f.session, origin := f.origin, firstLine := f.firstLine.toNat
       lineCount := f.lineCount.toNat, mark := f.mark, tag := f.tag }
     (notBound → answered .refused .notBound) ∧
     (¬ notBound → f.origin ≠ st.cfg.peer → answered .refused .peer) ∧
     (¬ notBound → f.origin = st.cfg.peer → range → answered .refused .range) ∧
     (¬ notBound → f.origin = st.cfg.peer → ¬ range → busy → answered .busy .none) ∧
     (¬ notBound → f.origin = st.cfg.peer → ¬ range → ¬ busy →
       (seqAfter st.appliedSeq f.mark = true → answered .disturbed .late) ∧
       (st.appliedSeq = f.mark → ∃ d, exec (.dgqArrival f) s = .next (settle { a with
         audit := { s.audit with responder := { taken with
           state := .reading, timer := none, nextLine := f.firstLine.toNat, crc := 0xFFFFFFFF#32
           disturbed := d } } }) ∧
         (d = true ↔ ∃ e ∈ s.apply.queue, e.stream = f.target ∧ seqAfter e.seq f.mark = true ∧
           e.progress ≠ .waiting ∧
           st.cfg.extentBase.toNat + 64 * f.firstLine.toNat ≤ (st.cfg.lineAddr e.line.toNat).toNat ∧
           (st.cfg.lineAddr e.line.toNat).toNat <
             st.cfg.extentBase.toNat + 64 * (f.firstLine.toNat + f.lineCount.toNat))) ∧
       (st.appliedSeq ≠ f.mark → seqAfter st.appliedSeq f.mark = false →
         exec (.dgqArrival f) s = .next (settle { a with
           audit := { s.audit with responder := { taken with
             state := .armed, timer := s.startTimer (s.global.auditTimeout * 1000) } } })))) ∧
  (∀ (f : DgrFrame) (s : State), s.accepts f.number →
     let j := s.audit.initiator
     let a := s.atAcceptance
     let current := j.state = .waiting ∧ f.tag = j.tag ∧ f.target = j.stream
     let mine := some (~~~j.crc)
     let ends := fun o r theirs => ∃ u, exec (.dgrArrival f) s = .next (settle u) ∧ a.jobEnded u o r mine theirs
     (¬ current → exec (.dgrArrival f) s = .next (settle a)) ∧
     (dgrVerdict f.status f.reason = none → exec (.dgrArrival f) s = .next (settle a)) ∧
     (current →
       (f.status = 0#8 → f.reason = 0#8 → f.digest = ~~~j.crc → ends .matched .none (some f.digest)) ∧
       (f.status = 0#8 → f.reason = 0#8 → f.digest ≠ ~~~j.crc → ends .mismatch .none (some f.digest)) ∧
       (f.status = 1#8 → f.reason = 11#8 → ends .disturbed .late none) ∧
       (f.status = 1#8 → f.reason = 12#8 → ends .disturbed .apply none) ∧
       (∀ r : Reason, f.status = 2#8 → 4 ≤ r.code → r.code ≤ 8 → f.reason = BitVec.ofNat 8 r.code →
         ends .refused r none) ∧
       (f.status = 3#8 → f.reason = 0#8 → ends .refused .busy none)) ∧
     ∀ st r : Byte, dgrVerdict st r = none ↔
       ¬((st = 0#8 ∧ r = 0#8) ∨ (st = 3#8 ∧ r = 0#8) ∨ (st = 1#8 ∧ (r = 11#8 ∨ r = 12#8)) ∨
         (st = 2#8 ∧ 4 ≤ r.toNat ∧ r.toNat ≤ 8)))

/-! ### Timers -/

/-- The HELLO, training, down retry, keepalive and silence timers' expiries (spec 4.2 Training; spec 4.3 The link in
UP; spec 4.4 Retrain and DOWN; spec 3.6 Link events and streams; NOTES logs 2, 4, 35, 36). -/
def Obligations.LinkTimers : Prop :=
  ∀ s : State, s.live →
    (s.link.state = .training → s.link.helloTimer ≠ none →
      exec .helloTimerExpiry s = .next (settle
        { s with link := { s.link with helloTimer := s.startTimer 10, helloRequest := true } })) ∧
    (s.link.state = .training → s.link.trainingTimer ≠ none →
      ∃ u, exec .trainingTimerExpiry s = .next (settle u) ∧
        State.streamsWentDown { s with
          link := { s.link with
            state := .down, trainingTimer := none, helloTimer := none, helloRequest := false
            downTimer := s.startTimer (s.global.downRetry * 1000) }
          events := (s.put .linkDown none 1#20).events } u) ∧
    (s.link.state = .down → s.link.downTimer ≠ none →
      exec .downRetryExpiry s = .next (settle { s with
        link := { s.link with
          state := .training, heard := false, heardSent := false, confirmed := false, lastAdvert := 0, credits := 0
          txNumber := 0#8, rxNumber := 0#8, keepaliveTimer := none, silenceTimer := none, downTimer := none
          trainingTimer := s.startTimer (s.global.trainingTimeout * 100), helloTimer := s.startTimer 10
          helloRequest := true }
        apply := { s.apply with pendingCredits := 0 } })) ∧
    (s.link.state = .up → s.link.keepaliveTimer ≠ none →
      exec .keepaliveTimerExpiry s = .next (settle
        { s with link := { s.link with keepaliveTimer := none, helloRequest := true } })) ∧
    (s.link.state = .up → s.link.silenceTimer ≠ none →
      ∃ u, exec .silenceTimerExpiry s = .next (settle u) ∧ s.retrained u 6 none)

/-- The handshake, retransmit, ACK delay, response and responder timers' expiries (spec 3.4 The SEND state machine;
spec 5.5 The retransmit timer and retry exhaustion; spec 6.4 ACK and NAK frames; spec 9.3 The answer and the end of a
job; spec 9.4 The responder job; NOTES logs 2, 4, 36). -/
def Obligations.StreamAndAuditTimers : Prop :=
  (∀ (i : StreamId) (s : State), s.live →
     let st := s.stream i
     (st.handshakeTimer ≠ none →
       (st.retryCount + 1 < st.cfg.retryLimit →
         exec (.handshakeTimerExpiry i) s = .next (settle (s.setStream i { st with
           retryCount := st.retryCount + 1, handshakeTimer := none, handshakeDue := true }))) ∧
       (st.cfg.retryLimit ≤ st.retryCount + 1 → st.state = .opening →
         ∃ u, exec (.handshakeTimerExpiry i) s = .next (settle u) ∧ s.enteredDegraded u i .openTimeout .none) ∧
       (st.cfg.retryLimit ≤ st.retryCount + 1 → st.state = .closing →
         ∃ u, exec (.handshakeTimerExpiry i) s = .next (settle u) ∧
           (s.setStream i { st with retryCount := st.retryCount + 1 }).enteredOff u i .closeTimeout .none)) ∧
     (st.retransmitTimer ≠ none →
       (st.retryCount + 1 < st.cfg.retryLimit →
         exec (.retransmitTimerExpiry i) s = .next (settle (s.setStream i { st with
           retryCount := st.retryCount + 1, cursor := st.sendList.head?.map Record.seq
           retransmitTimer := s.startTimer (st.cfg.ackTimeout * 10) }))) ∧
       (st.cfg.retryLimit ≤ st.retryCount + 1 → (st.state = .resync ∨ st.state = .active) →
         ∃ u, exec (.retransmitTimerExpiry i) s = .next (settle u) ∧
           s.enteredDegraded u i .retryExhausted .none) ∧
       (st.cfg.retryLimit ≤ st.retryCount + 1 → st.state = .closing →
         ∃ u, exec (.retransmitTimerExpiry i) s = .next (settle u) ∧
           (s.setStream i { st with retryCount := st.retryCount + 1 }).enteredOff u i .retryExhausted .none)) ∧
     (st.ackDelayTimer ≠ none →
       exec (.ackDelayTimerExpiry i) s = .next (settle (s.setStream i { st with
         ackDelayTimer := none, ackCount := if st.ackCount = 0 then 1 else st.ackCount })))) ∧
  (∀ s : State, s.live →
     (s.audit.initiator.state = .waiting → s.audit.initiator.timer ≠ none →
       ∃ u, exec .responseTimerExpiry s = .next (settle u) ∧
         s.jobEnded u .timeout .none (some (~~~s.audit.initiator.crc)) none) ∧
     (s.audit.responder.state = .armed → s.audit.responder.timer ≠ none →
       ∃ u, exec .responderTimerExpiry s = .next (settle u) ∧ s.responderEnded u .refused .expired 0#32))

/-! ### Commands of the command word -/

/-- Every command refused by its parameters or its state changes nothing but the command word and the command result
(spec 3.3 Stream commands; spec 4.1 Link state and configuration; spec 9.1 The initiator job; spec 11.3 Commands;
NOTES log 4). -/
def Obligations.CommandsRefused : Prop :=
  ∀ (p : CmdParams) (s : State), s.writable →
    let st := s.stream p.stream
    let unaligned := st.cfg.extentBase.toNat % (4096 * 2 ^ st.cfg.sizeCode) ≠ 0
    let refused := fun (c : Instr) (code : Byte) (o : CommandOutcome) =>
      exec c s = .next (settle { s with mgmt := s.afterCommand code p o })
    (st.cfg.direction = .receive ∨ st.cfg.limit = 0 ∨ unaligned →
      refused (.openStream p) 0x01#8 .refusedParam ∧ refused (.openClean p) 0x02#8 .refusedParam) ∧
    (st.cfg.direction = .send → st.cfg.limit ≠ 0 → ¬ unaligned → st.state ≠ .off →
      refused (.openStream p) 0x01#8 .refusedState ∧ refused (.openClean p) 0x02#8 .refusedState) ∧
    (st.cfg.direction = .receive →
      refused (.reopen p) 0x03#8 .refusedParam ∧ refused (.close p) 0x04#8 .refusedParam) ∧
    (st.cfg.direction = .send → st.state ≠ .degraded → refused (.reopen p) 0x03#8 .refusedState) ∧
    (st.cfg.direction = .send → st.state ≠ .resync → st.state ≠ .active →
      refused (.close p) 0x04#8 .refusedState) ∧
    (st.cfg.direction = .send ∨ unaligned → refused (.listen p) 0x06#8 .refusedParam) ∧
    (st.cfg.direction = .receive → ¬ unaligned → st.state ≠ .off → refused (.listen p) 0x06#8 .refusedState) ∧
    (s.link.state ≠ .off → refused (.linkEnable p) 0x10#8 .refusedState) ∧
    (s.link.state ≠ .up → refused (.linkRetrain p) 0x12#8 .refusedState) ∧
    (st.cfg.direction = .receive ∨ p.granuleCount = 0#11 ∨ 1024 < p.granuleCount.toNat ∨
        st.cfg.granules < p.firstGranule.toNat + p.granuleCount.toNat →
      refused (.auditStart p) 0x20#8 .refusedParam) ∧
    (st.cfg.direction = .send → p.granuleCount ≠ 0#11 → p.granuleCount.toNat ≤ 1024 →
        p.firstGranule.toNat + p.granuleCount.toNat ≤ st.cfg.granules →
        (st.state ≠ .active ∨ s.audit.initiator.state ≠ .idle) →
      refused (.auditStart p) 0x20#8 .refusedState) ∧
    (s.audit.initiator.state = .idle → refused (.auditAbort p) 0x21#8 .refusedState) ∧
    ∀ code : Byte, isCommandCode code = false → refused (.unknownCommand code p) code .refusedParam

/-- OPEN, OPEN_CLEAN and REOPEN accepted: OPENING with a new session, fresh sequence numbers, the OPEN due and the
dirty map as each leaves it (spec 3.3 Stream commands; spec 3.4 The SEND state machine; spec 8.1 The dirty map; NOTES
logs 4, 6). -/
def Obligations.OpeningCommands : Prop :=
  ∀ (p : CmdParams) (s : State), s.writable →
    let st := s.stream p.stream
    let opening := fun (code : Byte) (dirty : List Nat) => Host.Outcome.next (φ := Fault) (ρ := Refusal) (settle
      { s.setStream p.stream { st with
          state := .opening, cause := .command, reason := .none, session := st.session + 1, nextSeq := 0#16
          ackedSeq := 65535#16, sentSeq := 65535#16, retryCount := 0, dirty := dirty, copyPos := none
          cursor := none, retransmitTimer := none, handshakeTimer := none, handshakeDue := true } with
        mgmt := s.afterCommand code p .done
        owed := s.owed ++ [stateEvent p.stream .opening .command .none] })
    (st.cfg.direction = .send → st.cfg.limit ≠ 0 →
      st.cfg.extentBase.toNat % (4096 * 2 ^ st.cfg.sizeCode) = 0 → st.state = .off →
      exec (.openStream p) s = opening 0x01#8 (List.range (min 1024 (64 * 2 ^ st.cfg.sizeCode))) ∧
      exec (.openClean p) s = opening 0x02#8 st.dirty) ∧
    (st.cfg.direction = .send → st.state = .degraded → exec (.reopen p) s = opening 0x03#8 st.dirty)

/-- CLOSE accepted: CLOSING, the map cleared, held writes answered ERROR, the audit aborted; LISTEN accepted: LISTEN
with its counts cleared (spec 3.3 Stream commands; spec 3.4 The SEND state machine; spec 3.5 The RECEIVE state
machine; spec 7.5 Answers when a stream stops mirroring; NOTES logs 4, 20). -/
def Obligations.CloseAndListenCommands : Prop :=
  (∀ (p : CmdParams) (s : State), s.writable →
     let i := p.stream
     let st := s.stream i
     st.cfg.direction = .send → (st.state = .resync ∨ st.state = .active) →
     ∃ u, exec (.close p) s = .next (settle u) ∧ u.mgmt = s.afterCommand 0x04#8 p .done ∧
       u.stream i = { st with
         state := .closing, cause := .command, reason := .none, copyPos := none, dirty := [], closeSent := false
         handshakeTimer := none, handshakeDue := decide (st.sendList = [])
         retryCount := if st.sendList = [] then 0 else st.retryCount } ∧
       (∀ j, j ≠ i → u.stream j = s.stream j) ∧
       s.holdsAnswered u i ∧ s.engineLeft u i ∧ s.auditLeft u i ∧
       u.owed = s.owed ++ [stateEvent i .closing .command .none] ∧
       u.pool = s.pool ∧ u.link = s.link ∧ u.apply = s.apply ∧ u.mp = s.mp ∧ u.windows = s.windows) ∧
  (∀ (p : CmdParams) (s : State), s.writable →
     let st := s.stream p.stream
     st.cfg.direction = .receive → st.cfg.extentBase.toNat % (4096 * 2 ^ st.cfg.sizeCode) = 0 → st.state = .off →
     exec (.listen p) s = .next (settle
       { s.setStream p.stream { st with
           state := .listen, cause := .command, reason := .none, unacked := 0, ackCount := 0, ackDelayTimer := none
           nakOutstanding := false } with
         mgmt := s.afterCommand 0x06#8 p .done
         owed := s.owed ++ [stateEvent p.stream .listen .command .none] }))

/-- RESET_STREAM is DONE in every state: nothing in OFF; a RECEIVE stream leaves to OFF; a SEND stream is flushed to
OFF and its CLOSE requested in UP (spec 3.3 Stream commands; spec 3.4 The SEND state machine; spec 3.5 The RECEIVE
state machine; spec 2.8 Flushing and freeing; spec 7.5 Answers when a stream stops mirroring; NOTES logs 4, 15). -/
def Obligations.ResetStreamCommand : Prop :=
  ∀ (p : CmdParams) (s : State), s.writable →
    let i := p.stream
    let st := s.stream i
    let m := s.afterCommand 0x05#8 p .done
    (st.state = .off → exec (.resetStream p) s = .next (settle { s with mgmt := m })) ∧
    (st.state ≠ .off → st.cfg.direction = .receive →
      ∃ u, exec (.resetStream p) s = .next (settle u) ∧ State.leftBound { s with mgmt := m } u i .off .command .none) ∧
    (st.state ≠ .off → st.cfg.direction = .send →
      ∃ u, exec (.resetStream p) s = .next (settle u) ∧ u.mgmt = m ∧
        u.stream i = { st with
          state := .off, cause := .command, reason := .none, sendList := flushedList st.sendList, dirty := []
          copyPos := none, cursor := none, retransmitTimer := none, handshakeTimer := none, handshakeDue := false
          retryCount := 0 } ∧
        (∀ j, j ≠ i → u.stream j = s.stream j) ∧
        u.pool = s.pool.freed s.global.poolLowThreshold st.flushedSlots ∧
        s.holdsAnswered u i ∧ s.engineLeft u i ∧ s.auditLeft u i ∧
        u.link = { s.link with class3 := (s.link.class3.filter (fun q => !q.ownFrameOf i)) ++
          (if s.link.state = .up then [.resetClose i st.session] else []) } ∧
        u.owed = s.owed ++ [stateEvent i .off .command .none] ∧
        u.apply = s.apply ∧ u.mp = s.mp ∧ u.windows = s.windows)

/-- LINK_ENABLE, LINK_DISABLE and LINK_RETRAIN accepted, and the link enable indication (spec 4.1 Link state and
configuration; spec 4.2 Training; spec 4.4 Retrain and DOWN; spec 3.6 Link events and streams; NOTES logs 4, 33, 35,
36, 42). -/
def Obligations.LinkCommands : Prop :=
  ∀ (p : CmdParams) (s : State), s.writable →
    (s.link.state = .off →
      exec (.linkEnable p) s = .next (settle { s with
        mgmt := s.afterCommand 0x10#8 p .done
        link := { s.link with
          state := .training, heard := false, heardSent := false, confirmed := false, lastAdvert := 0, credits := 0
          txNumber := 0#8, rxNumber := 0#8, keepaliveTimer := none, silenceTimer := none, downTimer := none
          trainingTimer := s.startTimer (s.global.trainingTimeout * 100), helloTimer := s.startTimer 10
          helloRequest := true }
        apply := { s.apply with pendingCredits := 0 } }) ∧
      exec (.linkDisable p) s = .next (settle { s with mgmt := s.afterCommand 0x11#8 p .done })) ∧
    (s.link.state = .down →
      exec (.linkDisable p) s = .next (settle { s with
        mgmt := s.afterCommand 0x11#8 p .done, link := { s.link with state := .off, downTimer := none } })) ∧
    ((s.link.state = .training ∨ s.link.state = .up) →
      ∃ u v : State, exec (.linkDisable p) s = .next (settle u) ∧ v.streamsWentDown u ∧
        v = { s with
          mgmt := s.afterCommand 0x11#8 p .done
          link := { s.link with
            state := .off, helloTimer := none, trainingTimer := none, downTimer := none, keepaliveTimer := none
            silenceTimer := none, credits := 0, txNumber := 0#8, rxNumber := 0#8, heard := false, heardSent := false
            confirmed := false, helloRequest := false, class2 := [], class3 := [], class4 := [] }
          apply := { s.apply with pendingCredits := 0 }
          events := (s.put .linkDown none 2#20).events, streams := v.streams } ∧
        (s.link.state = .training → v.streams = s.streams) ∧
        (s.link.state = .up → ∀ i, v.stream i = { s.stream i with
          handshakeTimer := none, handshakeDue := false, retransmitTimer := none, nakSlot := none, ackCount := 0
          nakOutstanding := false })) ∧
    (s.link.state = .up →
      ∃ u, exec (.linkRetrain p) s = .next (settle u) ∧
        State.retrained { s with mgmt := s.afterCommand 0x12#8 p .done } u 8 none) ∧
    (s.linkEnabled = true ↔ s.link.state ≠ .off) ∧
    (s.global.poolLowThreshold ≤ 511 → (s.controlRead 0x10#16).getLsbD 31 = s.linkEnabled)

/-- AUDIT_START accepted starts the initiator's READING of the range with the next tag; AUDIT_ABORT accepted ends the
job ABORTED, COMMAND (spec 9.1 The initiator job; spec 9.3 The answer and the end of a job; NOTES log 4). -/
def Obligations.AuditCommands : Prop :=
  ∀ (p : CmdParams) (s : State), s.writable →
    let st := s.stream p.stream
    let j := s.audit.initiator
    (st.cfg.direction = .send → p.granuleCount ≠ 0#11 → p.granuleCount.toNat ≤ 1024 →
      p.firstGranule.toNat + p.granuleCount.toNat ≤ st.cfg.granules → st.state = .active → j.state = .idle →
      exec (.auditStart p) s = .next (settle { s with
        mgmt := s.afterCommand 0x20#8 p .done
        audit := { s.audit with initiator := { j with
          state := .reading, stream := p.stream, session := st.session, tag := j.tag + 1
          firstLine := p.firstGranule.toNat * st.cfg.linesPerGranule
          lineCount := p.granuleCount.toNat * st.cfg.linesPerGranule
          nextLine := p.firstGranule.toNat * st.cfg.linesPerGranule, crc := 0xFFFFFFFF#32, disturbed := false
          timer := none, dgqDue := false } } })) ∧
    (j.state ≠ .idle →
      ∃ u, exec (.auditAbort p) s = .next (settle u) ∧
        State.jobEnded { s with mgmt := s.afterCommand 0x21#8 p .done } u .aborted .command
          (if j.state = .waiting then some (~~~j.crc) else none) none)

/-! ### Control-space words -/

/-- A Window Table word's write is accepted with the word's fields, or refused and changes nothing but the transaction
status (spec 1.2 The Window Table; spec 12.2 Control-space map; spec 11.2 Control space; NOTES log 4). -/
def Obligations.WindowWrites : Prop :=
  ∀ (n : Fin 16) (o : Fin 4) (w : Word32) (s : State), s.writable →
    let old := s.window n
    let new := match o.val with
      | 0 => old.withControl w
      | 1 => { old with base := (old.base.extractLsb' 32 4) ++ (w &&& ~~~(63#32)) }
      | _ => { old with base := (w.extractLsb' 0 4) ++ (old.base.extractLsb' 0 32) }
    let c := (s.stream new.stream).cfg
    let inside := c.extentBase.toNat ≤ new.base.toNat ∧
      new.base.toNat + 64 * 2 ^ new.sizeCode ≤ c.extentBase.toNat + 4096 * 2 ^ c.sizeCode
    let checks := new.base.toNat % (64 * 2 ^ new.sizeCode) = 0 ∧
      (new.kind = .pass ∨ ((new.kind = .mirror ∨ new.kind = .gated) ∧ c.direction = .send ∧ inside) ∨
        (new.kind = .guarded ∧ c.direction = .receive ∧ inside))
    let accepted := o.val ≠ 3 ∧
      ((old.enable = false ∧ new.sizeCode ≤ 28 ∧ (new.enable = true → checks)) ∨
        (old.enable = true ∧ new.kind = old.kind ∧ new.base = old.base ∧ new.sizeCode = old.sizeCode ∧
          new.stream = old.stream))
    (accepted → exec (.windowEntryWrite n o w) s =
      .next (settle ((s.afterWord (windowAddress n o)).setWindow n new))) ∧
    (¬ accepted → exec (.windowEntryWrite n o w) s = .next (settle (s.afterRefusal (windowAddress n o)))) ∧
    old.withControl w = { old with
      enable := w.getLsbD 0, sizeCode := (w.extractLsb' 16 5).toNat, stream := Fin.ofNat 8 (w.extractLsb' 8 3).toNat
      kind := match (w.extractLsb' 4 2).toNat with
        | 0 => .pass
        | 1 => .mirror
        | 2 => .gated
        | _ => .guarded }

/-- A stream configuration word's write is accepted only in OFF, unnamed by a window, with its values in range; else
only the status changes (spec 3.1 The Stream Table; spec 12.2 Control-space map; spec 11.2 Control space; NOTES logs
4, 21). -/
def Obligations.StreamConfigWrites : Prop :=
  ∀ (i : StreamId) (o : Fin 16) (w : Word32) (s : State), s.writable →
    let st := s.stream i
    let c := st.cfg
    let a := streamAddress i o
    let field := fun lo n => (w.extractLsb' lo n).toNat
    let open_ := st.state = .off ∧ s.named i = false
    let refused := exec (.streamConfigWrite i o w) s = .next (settle (s.afterRefusal a))
    let set := fun (c' : StreamConfig) => exec (.streamConfigWrite i o w) s =
      .next (settle ((s.afterWord a).setStream i { st with cfg := c' }))
    let direction := if w.getLsbD 0 then Direction.receive else .send
    (¬ open_ ∨ 6 ≤ o.val → refused) ∧
    (open_ → o.val = 0 →
      ((14 < field 4 4 ∨ (direction ≠ c.direction ∧ st.sendList ≠ [])) → refused) ∧
      (field 4 4 ≤ 14 → (direction = c.direction ∨ st.sendList = []) →
        set { c with direction := direction, sizeCode := field 4 4, peer := Fin.ofNat 8 (field 8 3)
                     policy := if w.getLsbD 12 then .stall else .track, autoReopen := w.getLsbD 13 })) ∧
    (open_ → o.val = 1 → set { c with extentBase := (c.extentBase.extractLsb' 32 4) ++ (w &&& ~~~(4095#32)) }) ∧
    (open_ → o.val = 2 → set { c with extentBase := (w.extractLsb' 0 4) ++ (c.extentBase.extractLsb' 0 32) }) ∧
    (open_ → o.val = 3 →
      let sum := ((allStreams.filter (fun t => t != i)).map (fun t => (s.stream t).cfg.reserve)).sum
      let bad := 64 < field 0 7 ∨ 256 < sum + field 0 7 ∨ field 16 10 = 0 ∨ 512 < field 16 10 ∨
        field 16 10 < st.sendList.length
      (bad → refused) ∧ (¬ bad → set { c with reserve := field 0 7, limit := field 16 10 })) ∧
    (open_ → o.val = 4 → (field 0 10 = 0 → refused) ∧
      (field 0 10 ≠ 0 → set { c with stallTimeout := field 0 10, combineHold := field 16 8 })) ∧
    (open_ → o.val = 5 → ((field 0 12 = 0 ∨ field 16 4 = 0) → refused) ∧
      (field 0 12 ≠ 0 → field 16 4 ≠ 0 → set { c with ackTimeout := field 0 12, retryLimit := field 16 4 }))

/-- The global configuration words: accepted values, refused values, and the POOL_LOW monitor at a threshold write (spec
11.2 Control space; spec 12.2 Control-space map; spec 2.9 Pool monitors; spec 4.1 Link state and configuration; spec
6.4 ACK and NAK frames; spec 7.2 Hold slots; NOTES logs 4, 13, 44). -/
def Obligations.GlobalWrites : Prop :=
  ∀ (w : Word32) (s : State), s.writable →
    let field := fun lo n => (w.extractLsb' lo n).toNat
    let write := fun (a : BitVec 16) => exec (.controlWordWrite a w) s
    let threshold := field 0 9
    let low := decide (s.freeCount < threshold)
    let word10 := Host.Outcome.next (φ := Fault) (ρ := Refusal) (settle { s.afterWord 0x10#16 with
      global := { s.global with poolLowThreshold := threshold, alertEnable := w.getLsbD 16 }
      events := if s.pool.lowArmed = true ∧ low = true then
          (s.put .poolLow none (BitVec.ofNat 20 s.freeCount)).events else s.events
      pool := { s.pool with lowArmed := !low } })
    exec (.poolLowThresholdWrite w) s = word10 ∧ exec (.alertEnableWrite w) s = word10 ∧ write 0x10#16 = word10 ∧
    (let bad := field 0 8 = 0 ∨ field 8 8 = 0 ∨ field 16 8 = 0 ∨ field 24 8 = 0 ∨ field 24 8 < 2 * field 16 8
     (bad → write 0x11#16 = .next (settle (s.afterRefusal 0x11#16))) ∧
     (¬ bad → write 0x11#16 = .next (settle { s.afterWord 0x11#16 with
       global := { s.global with trainingTimeout := field 0 8, downRetry := field 8 8, keepalive := field 16 8
                                 silence := field 24 8 } }))) ∧
    (let bad := field 0 16 = 0 ∨ field 16 8 = 0
     (bad → write 0x12#16 = .next (settle (s.afterRefusal 0x12#16))) ∧
     (¬ bad → write 0x12#16 = .next (settle { s.afterWord 0x12#16 with
       global := { s.global with holdTimeout := field 0 16, auditTimeout := field 16 8 } }))) ∧
    (let bad := field 0 5 = 0 ∨ 16 < field 0 5 ∨ field 8 8 = 0
     (bad → write 0x13#16 = .next (settle (s.afterRefusal 0x13#16))) ∧
     (¬ bad → write 0x13#16 = .next (settle { s.afterWord 0x13#16 with
       global := { s.global with ackBatch := field 0 5, ackDelay := field 8 8 } })))

/-- A write of any control word does what the row of that word does; a word that is read-only or not in the map is
refused (spec 11.2 Control space; spec 12.2 Control-space map; spec 11.3 Commands; NOTES log 32). -/
def Obligations.ControlWordWrites : Prop :=
  ∀ (w : Word32) (s : State), s.writable →
    (∀ n o, exec (.controlWordWrite (windowAddress n o) w) s = exec (.windowEntryWrite n o w) s) ∧
    (∀ i o, exec (.controlWordWrite (streamAddress i o) w) s = exec (.streamConfigWrite i o w) s) ∧
    (∀ p : CmdParams, p.stream = Fin.ofNat 8 (w.extractLsb' 8 3).toNat → p.granuleCount = w.extractLsb' 11 11 →
      p.firstGranule = w.extractLsb' 22 10 →
      exec (.controlWordWrite 0x330#16 w) s = exec (.unknownCommand (w.extractLsb' 0 8) p) s ∧
        CmdParams.word (w.extractLsb' 0 8) p = w) ∧
    (∀ p : CmdParams, exec (.unknownCommand 0x01#8 p) s = exec (.openStream p) s) ∧
    ∀ a : BitVec 16, ¬(0x10 ≤ a.toNat ∧ a.toNat ≤ 0x13) → ¬(0x100 ≤ a.toNat ∧ a.toNat ≤ 0x13F) →
      ¬(0x200 ≤ a.toNat ∧ a.toNat ≤ 0x27F) → a ≠ 0x330#16 →
      exec (.controlWordWrite a w) s = .next (settle (s.afterRefusal a))

/-- The three reads with a side effect: the event pop, the minimum-free monitor and the frame check error count (spec
11.4 The Event Queue and ALERT_N; spec 2.9 Pool monitors; spec 4.3 The link in UP; spec 12.2 Control-space map; NOTES
logs 4, 10). -/
def Obligations.SideEffectReads : Prop :=
  ∀ s : State, s.portOpen →
    (s.events.entries = [] → exec .eventPop s = .next (settle { s.afterRead 0x340#16 0#32 with
      events := { s.events with latchedTime := 0#32, lost := false } })) ∧
    (∀ e rest, s.events.entries = e :: rest → exec .eventPop s = .next (settle
      { s.afterRead 0x340#16 (BitVec.ofNat 32 e.code.code |||
          (match e.stream with
            | some i => BitVec.ofNat 32 (256 * i.val + 2048)
            | none => 0#32) ||| (e.detail.setWidth 32 <<< 12)) with
        events := { s.events with
          entries := rest, latchedTime := e.time, lost := s.events.lost && decide (rest ≠ []) } })) ∧
    exec .minimumFreeRead s = .next (settle { s.afterRead 0x301#16 ((BitVec.ofNat 10 s.pool.minFree).setWidth 32) with
      pool := { s.pool with minFree := s.freeCount } }) ∧
    exec .frameCheckErrorCountRead s = .next (settle
      { s.afterRead 0x311#16 ((BitVec.ofNat 16 s.link.frameErrors).setWidth 32) with link := { s.link with frameErrors := 0 } })

/-- The SPI port: a bad command byte, CS_N's rise, what a word does to the port and to MISO, the address after a read;
and when ALERT_N is low (spec 11.1 SPI transactions; spec 11.4 The Event Queue and ALERT_N; NOTES logs 4, 10, 12,
33). -/
def Obligations.SpiPortAndAlert : Prop :=
  (∀ s : State, s.resetAsserted = false →
    exec .spiBadCommandByte s = .next (settle { s with mgmt := { s.mgmt with
      spi := { kind := .bad, address := 0#16, refused := true, miso := [.zero, .status true] } } }) ∧
    exec .csNRising s = .next (settle { s with mgmt := { s.mgmt with
      spi := { kind := .idle, address := 0#16, refused := false, miso := [] } } }) ∧
    (s.mgmt.spi.kind = .bad →
      let v := { s with mgmt := { s.mgmt with spi := { s.mgmt.spi with miso := [.status true] } } }
      (∀ (c : Instr) (a : BitVec 16), writeAddress c = some a → exec c s = .next (settle v)) ∧
      exec .eventPop s = .next (settle v) ∧ exec .minimumFreeRead s = .next (settle v) ∧
      exec .frameCheckErrorCountRead s = .next (settle v) ∧ ∀ a, readControlWord a s = .next (settle v))) ∧
  (∀ s : State, s.portOpen →
    (∀ (c : Instr) (a : BitVec 16), writeAddress c = some a →
      let standing := decide (s.mgmt.spi.kind = .write ∧ s.mgmt.spi.address = a) && s.mgmt.spi.refused
      let lead := if s.mgmt.spi.kind = .write ∧ s.mgmt.spi.address = a then [] else [Miso.zero, .status false]
      ∃ t refused, exec c s = .next t ∧ t.mgmt.reads = s.mgmt.reads ∧
        t.mgmt.spi = { kind := .write, address := a + 1, refused := standing || refused
                       miso := lead ++ [.status (standing || refused)] } ∧
        (refused = true → t = settle (s.afterRefusal a))) ∧
    (∀ (a : BitVec 16) (v : Word32),
      let standing := decide (s.mgmt.spi.kind = .read ∧ s.mgmt.spi.address = a) && s.mgmt.spi.refused
      let lead := if s.mgmt.spi.kind = .read ∧ s.mgmt.spi.address = a then [] else [Miso.zero, .status false]
      s.afterRead a v = { s with mgmt := { s.mgmt with spi := {
        kind := .read, address := if a = 0x341#16 then 0x340#16 else a + 1, refused := standing
        miso := lead ++ [.word v] } } })) ∧
  ∀ s : State, s.resetAsserted = false →
    (s.alertLow = true ↔ s.global.alertEnable = true ∧ s.events.entries ≠ [])

/-- The value that a read of every control-space word returns, by its table; a word outside every region reads 0; a read
without a side effect only moves the SPI port (spec 12.2 Control-space map; spec 11.2 Control space; spec 11.1 SPI
transactions; NOTES logs 4, 33, 41, 49). -/
def Obligations.ControlSpaceReads : Prop :=
  (∀ (a : BitVec 16) (s : State), s.portOpen → a ≠ 0x340#16 → a ≠ 0x301#16 → a ≠ 0x311#16 →
    readControlWord a s = .next (settle (s.afterRead a (s.controlRead a)))) ∧
  (∀ s : State, readControlWord 0x340#16 s = exec .eventPop s ∧ readControlWord 0x301#16 s = exec .minimumFreeRead s ∧
    readControlWord 0x311#16 s = exec .frameCheckErrorCountRead s) ∧
  ∀ s : State,
    let f := fun (v lo width : Nat) => (BitVec.ofNat width v).setWidth 32 <<< lo
    let b := fun (c : Bool) (lo : Nat) => if c then 1#32 <<< lo else 0#32
    let g := s.global
    let l := s.link
    let j := s.audit.initiator
    let r := s.audit.result
    (s.controlRead 0x000#16 = 0x06120001#32 ∧
      s.controlRead 0x010#16 = f g.poolLowThreshold 0 9 ||| b g.alertEnable 16 ||| b (decide (l.state ≠ .off)) 31 ∧
      s.controlRead 0x011#16 = f g.trainingTimeout 0 8 ||| f g.downRetry 8 8 ||| f g.keepalive 16 8 |||
        f g.silence 24 8 ∧
      s.controlRead 0x012#16 = f g.holdTimeout 0 16 ||| f g.auditTimeout 16 8 ∧
      s.controlRead 0x013#16 = f g.ackBatch 0 5 ||| f g.ackDelay 8 8) ∧
    (∀ n : Fin 16, let w := s.window n
      s.controlRead (windowAddress n 0) =
        b w.enable 0 ||| f w.kind.code 4 2 ||| f w.stream.val 8 3 ||| f w.sizeCode 16 5 ∧
      s.controlRead (windowAddress n 1) = w.base.setWidth 32 ∧
      s.controlRead (windowAddress n 2) = (w.base.extractLsb' 32 4).setWidth 32 ∧
      s.controlRead (windowAddress n 3) = 0#32) ∧
    (∀ i : StreamId, let st := s.stream i
      let c := st.cfg
      s.controlRead (streamAddress i 0) = b (decide (c.direction = .receive)) 0 ||| f c.sizeCode 4 4 |||
        f c.peer.val 8 3 ||| b (decide (c.policy = .stall)) 12 ||| b c.autoReopen 13 ∧
      s.controlRead (streamAddress i 1) = c.extentBase.setWidth 32 ∧
      s.controlRead (streamAddress i 2) = (c.extentBase.extractLsb' 32 4).setWidth 32 ∧
      s.controlRead (streamAddress i 3) = f c.reserve 0 7 ||| f c.limit 16 10 ∧
      s.controlRead (streamAddress i 4) = f c.stallTimeout 0 10 ||| f c.combineHold 16 8 ∧
      s.controlRead (streamAddress i 5) = f c.ackTimeout 0 12 ||| f c.retryLimit 16 4 ∧
      s.controlRead (streamAddress i 6) = f st.state.code 0 4 ||| f st.cause.code 8 4 ||| f st.reason.code 16 4 ∧
      s.controlRead (streamAddress i 7) = f st.session.toNat 0 8 ||| f st.retryCount 8 4 ||| f st.dirty.length 16 11 ∧
      s.controlRead (streamAddress i 8) = f st.nextSeq.toNat 0 16 ||| f st.ackedSeq.toNat 16 16 ∧
      s.controlRead (streamAddress i 9) = f st.sentSeq.toNat 0 16 ∧
      s.controlRead (streamAddress i 10) = (match st.copyPos with
        | some p => f p.granule 0 10 ||| f p.line 16 10 ||| b true 31
        | none => 0#32) ∧
      s.controlRead (streamAddress i 11) = f st.acceptSeq.toNat 0 16 ||| f st.appliedSeq.toNat 16 16 ∧
      s.controlRead (streamAddress i 12) = b st.nakOutstanding 0 ||| f st.unacked 8 8 ||| f st.ackCount 16 6 ∧
      (∀ o : Fin 16, 13 ≤ o.val → s.controlRead (streamAddress i o) = 0#32) ∧
      s.controlRead (BitVec.ofNat 16 (0x302 + i.val)) = f st.sendList.length 0 10) ∧
    (s.controlRead 0x300#16 = f s.freeCount 0 10 ∧ s.controlRead 0x301#16 = f s.pool.minFree 0 10 ∧
      s.controlRead 0x310#16 =
        f l.state.code 0 2 ||| b l.confirmed 4 ||| f l.credits 8 6 ||| f s.apply.queue.length 16 6 ∧
      s.controlRead 0x311#16 = f l.frameErrors 0 16 ∧ s.controlRead 0x312#16 = l.partnerId ∧
      s.controlRead 0x313#16 = f l.txNumber.toNat 0 8 ||| f l.rxNumber.toNat 8 8 ∧
      s.controlRead 0x320#16 = f j.state.code 0 2 ||| f j.stream.val 4 3 ||| b (decide (j.readOut ≠ .none)) 7 |||
        f j.tag.toNat 8 8 ||| f j.mark.toNat 16 16 ∧
      s.controlRead 0x321#16 = f r.outcome.code 0 4 ||| f r.reason.code 8 4 ||| f r.tag.toNat 16 8 |||
        f r.stream.val 24 3 |||
        b r.localDigest.isSome 28 ||| b r.partnerDigest.isSome 29 ∧
      s.controlRead 0x322#16 = r.localDigest.getD 0#32 ∧ s.controlRead 0x323#16 = r.partnerDigest.getD 0#32 ∧
      s.controlRead 0x330#16 = s.mgmt.commandWord ∧
      s.controlRead 0x331#16 =
        f s.mgmt.result.outcome.code 0 2 ||| f s.mgmt.result.code.toNat 8 8 ||| f s.mgmt.result.stream.val 16 3 ∧
      (s.events.entries = [] → s.controlRead 0x340#16 = 0#32) ∧ s.controlRead 0x341#16 = s.events.latchedTime ∧
      s.controlRead 0x342#16 = f s.events.entries.length 0 6 ||| b s.events.lost 6 ||| (s.events.time <<< 8)) ∧
    ∀ a : BitVec 16, a ≠ 0#16 → ¬(0x10 ≤ a.toNat ∧ a.toNat ≤ 0x13) → ¬(0x100 ≤ a.toNat ∧ a.toNat ≤ 0x13F) →
      ¬(0x200 ≤ a.toNat ∧ a.toNat ≤ 0x27F) → ¬(0x300 ≤ a.toNat ∧ a.toNat ≤ 0x309) →
      ¬(0x310 ≤ a.toNat ∧ a.toNat ≤ 0x313) → ¬(0x320 ≤ a.toNat ∧ a.toNat ≤ 0x323) →
      a ≠ 0x330#16 → a ≠ 0x331#16 → ¬(0x340 ≤ a.toNat ∧ a.toNat ≤ 0x342) → s.controlRead a = 0#32
end

