-- ==== Sys2Proof/Laws/State.lean ====
section
/-! SUPPORT. What the primitive updates of State leave: one lemma per field per update, and reading a stream, a window
or a hold slot after an update. -/

namespace Sys2Proof.Machine

/-! ### Reading back -/

theorem vector_get_set {α : Type} {n : Nat} (v : Vector α n) (i j : Fin n) (x : α) :
    (v.set i.val x i.isLt).get j = if i = j then x else v.get j := by
  have e : ∀ (u : Vector α n) (k : Fin n), u.get k = u[k.val] := fun _ _ => rfl
  rw [e, e, Vector.getElem_set]
  by_cases h : i = j
  · simp [h]
  · have h' : i.val ≠ j.val := fun k => h (Fin.ext k)
    simp [h, h']

@[simp] theorem State.stream_setStream (s : State) (i : StreamId) (x : Stream) : (s.setStream i x).stream i = x :=
  (vector_get_set s.streams i i x).trans (if_pos rfl)

theorem State.stream_setStream_ne (s : State) (i j : StreamId) (x : Stream) (h : j ≠ i) :
    (s.setStream i x).stream j = s.stream j :=
  (vector_get_set s.streams i j x).trans (if_neg (Ne.symm h))

@[simp] theorem State.stream_modStream (s : State) (i : StreamId) (f : Stream → Stream) :
    (s.modStream i f).stream i = f (s.stream i) := State.stream_setStream s i _

theorem State.stream_modStream_ne (s : State) (i j : StreamId) (f : Stream → Stream) (h : j ≠ i) :
    (s.modStream i f).stream j = s.stream j := State.stream_setStream_ne s i j _ h

theorem streamTable_get (f : StreamId → Stream) (i : StreamId) : (streamTable f).get i = f i := by
  match i with
  | 0 | 1 | 2 | 3 | 4 | 5 | 6 | 7 => rfl

@[simp] theorem State.stream_mapStreams (s : State) (f : StreamId → Stream → Stream) (i : StreamId) :
    (s.mapStreams f).stream i = f i (s.stream i) := streamTable_get _ i

@[simp] theorem State.stream_changeState (s : State) (i : StreamId) (x : StreamState) (c : Cause) (r : Reason) :
    (s.changeState i x c r).stream i = { s.stream i with state := x, cause := c, reason := r } :=
  State.stream_modStream s i (fun y => { y with state := x, cause := c, reason := r })

theorem State.stream_changeState_ne (s : State) (i j : StreamId) (x : StreamState) (c : Cause) (r : Reason)
    (h : j ≠ i) : (s.changeState i x c r).stream j = s.stream j :=
  State.stream_modStream_ne s i j (fun y => { y with state := x, cause := c, reason := r }) h

@[simp] theorem State.window_setWindow (s : State) (n : Fin 16) (w : Window) : (s.setWindow n w).window n = w :=
  (vector_get_set s.windows n n w).trans (if_pos rfl)

theorem State.window_setWindow_ne (s : State) (n m : Fin 16) (w : Window) (h : m ≠ n) :
    (s.setWindow n w).window m = s.window m := (vector_get_set s.windows n m w).trans (if_neg (Ne.symm h))

@[simp] theorem State.hold_setHold (s : State) (k : Fin 4) (x : Option HeldWrite) : (s.setHold k x).hold k = x :=
  (vector_get_set s.holds k k x).trans (if_pos rfl)

theorem State.hold_setHold_ne (s : State) (k j : Fin 4) (x : Option HeldWrite) (h : j ≠ k) :
    (s.setHold k x).hold j = s.hold j := (vector_get_set s.holds k j x).trans (if_neg (Ne.symm h))

theorem holdTable_get (f : Fin 4 → Option HeldWrite) (k : Fin 4) : (holdTable f).get k = f k := by
  match k with
  | 0 | 1 | 2 | 3 => rfl

/-- Two stream tables that read alike are equal. -/
theorem streams_ext (a b : Vector Stream 8) (h : ∀ i : StreamId, a.get i = b.get i) : a = b := by
  apply Vector.ext
  intro i hi
  exact h ⟨i, hi⟩

/-! ### What each primitive update leaves unchanged -/

@[simp] theorem State.setStream_sp (s : State) (i : StreamId) (x : Stream) : (s.setStream i x).sp = s.sp := rfl
@[simp] theorem State.setStream_windows (s : State) (i : StreamId) (x : Stream) : (s.setStream i x).windows = s.windows := rfl
@[simp] theorem State.setStream_pool (s : State) (i : StreamId) (x : Stream) : (s.setStream i x).pool = s.pool := rfl
@[simp] theorem State.setStream_link (s : State) (i : StreamId) (x : Stream) : (s.setStream i x).link = s.link := rfl
@[simp] theorem State.setStream_apply (s : State) (i : StreamId) (x : Stream) : (s.setStream i x).apply = s.apply := rfl
@[simp] theorem State.setStream_holds (s : State) (i : StreamId) (x : Stream) : (s.setStream i x).holds = s.holds := rfl
@[simp] theorem State.setStream_engine (s : State) (i : StreamId) (x : Stream) : (s.setStream i x).engine = s.engine := rfl
@[simp] theorem State.setStream_audit (s : State) (i : StreamId) (x : Stream) : (s.setStream i x).audit = s.audit := rfl
@[simp] theorem State.setStream_mp (s : State) (i : StreamId) (x : Stream) : (s.setStream i x).mp = s.mp := rfl
@[simp] theorem State.setStream_mgmt (s : State) (i : StreamId) (x : Stream) : (s.setStream i x).mgmt = s.mgmt := rfl
@[simp] theorem State.setStream_events (s : State) (i : StreamId) (x : Stream) : (s.setStream i x).events = s.events := rfl
@[simp] theorem State.setStream_global (s : State) (i : StreamId) (x : Stream) : (s.setStream i x).global = s.global := rfl
@[simp] theorem State.setStream_softReset (s : State) (i : StreamId) (x : Stream) : (s.setStream i x).softReset = s.softReset := rfl
@[simp] theorem State.setStream_resetAsserted (s : State) (i : StreamId) (x : Stream) : (s.setStream i x).resetAsserted = s.resetAsserted := rfl
@[simp] theorem State.setStream_out (s : State) (i : StreamId) (x : Stream) : (s.setStream i x).out = s.out := rfl
@[simp] theorem State.setStream_owed (s : State) (i : StreamId) (x : Stream) : (s.setStream i x).owed = s.owed := rfl
@[simp] theorem State.setStream_choices (s : State) (i : StreamId) (x : Stream) : (s.setStream i x).choices = s.choices := rfl
@[simp] theorem State.setStream_pending (s : State) (i : StreamId) (x : Stream) : (s.setStream i x).pending = s.pending := rfl

@[simp] theorem State.modStream_sp (s : State) (i : StreamId) (f : Stream → Stream) : (s.modStream i f).sp = s.sp := rfl
@[simp] theorem State.modStream_windows (s : State) (i : StreamId) (f : Stream → Stream) : (s.modStream i f).windows = s.windows := rfl
@[simp] theorem State.modStream_pool (s : State) (i : StreamId) (f : Stream → Stream) : (s.modStream i f).pool = s.pool := rfl
@[simp] theorem State.modStream_link (s : State) (i : StreamId) (f : Stream → Stream) : (s.modStream i f).link = s.link := rfl
@[simp] theorem State.modStream_apply (s : State) (i : StreamId) (f : Stream → Stream) : (s.modStream i f).apply = s.apply := rfl
@[simp] theorem State.modStream_holds (s : State) (i : StreamId) (f : Stream → Stream) : (s.modStream i f).holds = s.holds := rfl
@[simp] theorem State.modStream_engine (s : State) (i : StreamId) (f : Stream → Stream) : (s.modStream i f).engine = s.engine := rfl
@[simp] theorem State.modStream_audit (s : State) (i : StreamId) (f : Stream → Stream) : (s.modStream i f).audit = s.audit := rfl
@[simp] theorem State.modStream_mp (s : State) (i : StreamId) (f : Stream → Stream) : (s.modStream i f).mp = s.mp := rfl
@[simp] theorem State.modStream_mgmt (s : State) (i : StreamId) (f : Stream → Stream) : (s.modStream i f).mgmt = s.mgmt := rfl
@[simp] theorem State.modStream_events (s : State) (i : StreamId) (f : Stream → Stream) : (s.modStream i f).events = s.events := rfl
@[simp] theorem State.modStream_global (s : State) (i : StreamId) (f : Stream → Stream) : (s.modStream i f).global = s.global := rfl
@[simp] theorem State.modStream_softReset (s : State) (i : StreamId) (f : Stream → Stream) : (s.modStream i f).softReset = s.softReset := rfl
@[simp] theorem State.modStream_resetAsserted (s : State) (i : StreamId) (f : Stream → Stream) : (s.modStream i f).resetAsserted = s.resetAsserted := rfl
@[simp] theorem State.modStream_out (s : State) (i : StreamId) (f : Stream → Stream) : (s.modStream i f).out = s.out := rfl
@[simp] theorem State.modStream_owed (s : State) (i : StreamId) (f : Stream → Stream) : (s.modStream i f).owed = s.owed := rfl
@[simp] theorem State.modStream_choices (s : State) (i : StreamId) (f : Stream → Stream) : (s.modStream i f).choices = s.choices := rfl
@[simp] theorem State.modStream_pending (s : State) (i : StreamId) (f : Stream → Stream) : (s.modStream i f).pending = s.pending := rfl

@[simp] theorem State.mapStreams_sp (s : State) (f : StreamId → Stream → Stream) : (s.mapStreams f).sp = s.sp := rfl
@[simp] theorem State.mapStreams_windows (s : State) (f : StreamId → Stream → Stream) : (s.mapStreams f).windows = s.windows := rfl
@[simp] theorem State.mapStreams_pool (s : State) (f : StreamId → Stream → Stream) : (s.mapStreams f).pool = s.pool := rfl
@[simp] theorem State.mapStreams_link (s : State) (f : StreamId → Stream → Stream) : (s.mapStreams f).link = s.link := rfl
@[simp] theorem State.mapStreams_apply (s : State) (f : StreamId → Stream → Stream) : (s.mapStreams f).apply = s.apply := rfl
@[simp] theorem State.mapStreams_holds (s : State) (f : StreamId → Stream → Stream) : (s.mapStreams f).holds = s.holds := rfl
@[simp] theorem State.mapStreams_engine (s : State) (f : StreamId → Stream → Stream) : (s.mapStreams f).engine = s.engine := rfl
@[simp] theorem State.mapStreams_audit (s : State) (f : StreamId → Stream → Stream) : (s.mapStreams f).audit = s.audit := rfl
@[simp] theorem State.mapStreams_mp (s : State) (f : StreamId → Stream → Stream) : (s.mapStreams f).mp = s.mp := rfl
@[simp] theorem State.mapStreams_mgmt (s : State) (f : StreamId → Stream → Stream) : (s.mapStreams f).mgmt = s.mgmt := rfl
@[simp] theorem State.mapStreams_events (s : State) (f : StreamId → Stream → Stream) : (s.mapStreams f).events = s.events := rfl
@[simp] theorem State.mapStreams_global (s : State) (f : StreamId → Stream → Stream) : (s.mapStreams f).global = s.global := rfl
@[simp] theorem State.mapStreams_softReset (s : State) (f : StreamId → Stream → Stream) : (s.mapStreams f).softReset = s.softReset := rfl
@[simp] theorem State.mapStreams_resetAsserted (s : State) (f : StreamId → Stream → Stream) : (s.mapStreams f).resetAsserted = s.resetAsserted := rfl
@[simp] theorem State.mapStreams_out (s : State) (f : StreamId → Stream → Stream) : (s.mapStreams f).out = s.out := rfl
@[simp] theorem State.mapStreams_owed (s : State) (f : StreamId → Stream → Stream) : (s.mapStreams f).owed = s.owed := rfl
@[simp] theorem State.mapStreams_choices (s : State) (f : StreamId → Stream → Stream) : (s.mapStreams f).choices = s.choices := rfl
@[simp] theorem State.mapStreams_pending (s : State) (f : StreamId → Stream → Stream) : (s.mapStreams f).pending = s.pending := rfl

@[simp] theorem State.setWindow_sp (s : State) (n : Fin 16) (w : Window) : (s.setWindow n w).sp = s.sp := rfl
@[simp] theorem State.setWindow_pool (s : State) (n : Fin 16) (w : Window) : (s.setWindow n w).pool = s.pool := rfl
@[simp] theorem State.setWindow_streams (s : State) (n : Fin 16) (w : Window) : (s.setWindow n w).streams = s.streams := rfl
@[simp] theorem State.setWindow_link (s : State) (n : Fin 16) (w : Window) : (s.setWindow n w).link = s.link := rfl
@[simp] theorem State.setWindow_apply (s : State) (n : Fin 16) (w : Window) : (s.setWindow n w).apply = s.apply := rfl
@[simp] theorem State.setWindow_holds (s : State) (n : Fin 16) (w : Window) : (s.setWindow n w).holds = s.holds := rfl
@[simp] theorem State.setWindow_engine (s : State) (n : Fin 16) (w : Window) : (s.setWindow n w).engine = s.engine := rfl
@[simp] theorem State.setWindow_audit (s : State) (n : Fin 16) (w : Window) : (s.setWindow n w).audit = s.audit := rfl
@[simp] theorem State.setWindow_mp (s : State) (n : Fin 16) (w : Window) : (s.setWindow n w).mp = s.mp := rfl
@[simp] theorem State.setWindow_mgmt (s : State) (n : Fin 16) (w : Window) : (s.setWindow n w).mgmt = s.mgmt := rfl
@[simp] theorem State.setWindow_events (s : State) (n : Fin 16) (w : Window) : (s.setWindow n w).events = s.events := rfl
@[simp] theorem State.setWindow_global (s : State) (n : Fin 16) (w : Window) : (s.setWindow n w).global = s.global := rfl
@[simp] theorem State.setWindow_softReset (s : State) (n : Fin 16) (w : Window) : (s.setWindow n w).softReset = s.softReset := rfl
@[simp] theorem State.setWindow_resetAsserted (s : State) (n : Fin 16) (w : Window) : (s.setWindow n w).resetAsserted = s.resetAsserted := rfl
@[simp] theorem State.setWindow_out (s : State) (n : Fin 16) (w : Window) : (s.setWindow n w).out = s.out := rfl
@[simp] theorem State.setWindow_owed (s : State) (n : Fin 16) (w : Window) : (s.setWindow n w).owed = s.owed := rfl
@[simp] theorem State.setWindow_choices (s : State) (n : Fin 16) (w : Window) : (s.setWindow n w).choices = s.choices := rfl
@[simp] theorem State.setWindow_pending (s : State) (n : Fin 16) (w : Window) : (s.setWindow n w).pending = s.pending := rfl

@[simp] theorem State.setHold_sp (s : State) (k : Fin 4) (h : Option HeldWrite) : (s.setHold k h).sp = s.sp := rfl
@[simp] theorem State.setHold_windows (s : State) (k : Fin 4) (h : Option HeldWrite) : (s.setHold k h).windows = s.windows := rfl
@[simp] theorem State.setHold_pool (s : State) (k : Fin 4) (h : Option HeldWrite) : (s.setHold k h).pool = s.pool := rfl
@[simp] theorem State.setHold_streams (s : State) (k : Fin 4) (h : Option HeldWrite) : (s.setHold k h).streams = s.streams := rfl
@[simp] theorem State.setHold_link (s : State) (k : Fin 4) (h : Option HeldWrite) : (s.setHold k h).link = s.link := rfl
@[simp] theorem State.setHold_apply (s : State) (k : Fin 4) (h : Option HeldWrite) : (s.setHold k h).apply = s.apply := rfl
@[simp] theorem State.setHold_engine (s : State) (k : Fin 4) (h : Option HeldWrite) : (s.setHold k h).engine = s.engine := rfl
@[simp] theorem State.setHold_audit (s : State) (k : Fin 4) (h : Option HeldWrite) : (s.setHold k h).audit = s.audit := rfl
@[simp] theorem State.setHold_mp (s : State) (k : Fin 4) (h : Option HeldWrite) : (s.setHold k h).mp = s.mp := rfl
@[simp] theorem State.setHold_mgmt (s : State) (k : Fin 4) (h : Option HeldWrite) : (s.setHold k h).mgmt = s.mgmt := rfl
@[simp] theorem State.setHold_events (s : State) (k : Fin 4) (h : Option HeldWrite) : (s.setHold k h).events = s.events := rfl
@[simp] theorem State.setHold_global (s : State) (k : Fin 4) (h : Option HeldWrite) : (s.setHold k h).global = s.global := rfl
@[simp] theorem State.setHold_softReset (s : State) (k : Fin 4) (h : Option HeldWrite) : (s.setHold k h).softReset = s.softReset := rfl
@[simp] theorem State.setHold_resetAsserted (s : State) (k : Fin 4) (h : Option HeldWrite) : (s.setHold k h).resetAsserted = s.resetAsserted := rfl
@[simp] theorem State.setHold_out (s : State) (k : Fin 4) (h : Option HeldWrite) : (s.setHold k h).out = s.out := rfl
@[simp] theorem State.setHold_owed (s : State) (k : Fin 4) (h : Option HeldWrite) : (s.setHold k h).owed = s.owed := rfl
@[simp] theorem State.setHold_choices (s : State) (k : Fin 4) (h : Option HeldWrite) : (s.setHold k h).choices = s.choices := rfl
@[simp] theorem State.setHold_pending (s : State) (k : Fin 4) (h : Option HeldWrite) : (s.setHold k h).pending = s.pending := rfl

@[simp] theorem State.respond_windows (s : State) (t : SpTag) (x : Status) (d : List Byte) : (s.respond t x d).windows = s.windows := rfl
@[simp] theorem State.respond_pool (s : State) (t : SpTag) (x : Status) (d : List Byte) : (s.respond t x d).pool = s.pool := rfl
@[simp] theorem State.respond_streams (s : State) (t : SpTag) (x : Status) (d : List Byte) : (s.respond t x d).streams = s.streams := rfl
@[simp] theorem State.respond_link (s : State) (t : SpTag) (x : Status) (d : List Byte) : (s.respond t x d).link = s.link := rfl
@[simp] theorem State.respond_apply (s : State) (t : SpTag) (x : Status) (d : List Byte) : (s.respond t x d).apply = s.apply := rfl
@[simp] theorem State.respond_holds (s : State) (t : SpTag) (x : Status) (d : List Byte) : (s.respond t x d).holds = s.holds := rfl
@[simp] theorem State.respond_engine (s : State) (t : SpTag) (x : Status) (d : List Byte) : (s.respond t x d).engine = s.engine := rfl
@[simp] theorem State.respond_audit (s : State) (t : SpTag) (x : Status) (d : List Byte) : (s.respond t x d).audit = s.audit := rfl
@[simp] theorem State.respond_mp (s : State) (t : SpTag) (x : Status) (d : List Byte) : (s.respond t x d).mp = s.mp := rfl
@[simp] theorem State.respond_mgmt (s : State) (t : SpTag) (x : Status) (d : List Byte) : (s.respond t x d).mgmt = s.mgmt := rfl
@[simp] theorem State.respond_events (s : State) (t : SpTag) (x : Status) (d : List Byte) : (s.respond t x d).events = s.events := rfl
@[simp] theorem State.respond_global (s : State) (t : SpTag) (x : Status) (d : List Byte) : (s.respond t x d).global = s.global := rfl
@[simp] theorem State.respond_softReset (s : State) (t : SpTag) (x : Status) (d : List Byte) : (s.respond t x d).softReset = s.softReset := rfl
@[simp] theorem State.respond_resetAsserted (s : State) (t : SpTag) (x : Status) (d : List Byte) : (s.respond t x d).resetAsserted = s.resetAsserted := rfl
@[simp] theorem State.respond_out (s : State) (t : SpTag) (x : Status) (d : List Byte) : (s.respond t x d).out = s.out := rfl
@[simp] theorem State.respond_owed (s : State) (t : SpTag) (x : Status) (d : List Byte) : (s.respond t x d).owed = s.owed := rfl
@[simp] theorem State.respond_choices (s : State) (t : SpTag) (x : Status) (d : List Byte) : (s.respond t x d).choices = s.choices := rfl
@[simp] theorem State.respond_pending (s : State) (t : SpTag) (x : Status) (d : List Byte) : (s.respond t x d).pending = s.pending := rfl

@[simp] theorem State.joinThrough_sp (s : State) (r : SpRequest) (u : WriteUse) : (s.joinThrough r u).sp = s.sp := rfl
@[simp] theorem State.joinThrough_windows (s : State) (r : SpRequest) (u : WriteUse) : (s.joinThrough r u).windows = s.windows := rfl
@[simp] theorem State.joinThrough_pool (s : State) (r : SpRequest) (u : WriteUse) : (s.joinThrough r u).pool = s.pool := rfl
@[simp] theorem State.joinThrough_streams (s : State) (r : SpRequest) (u : WriteUse) : (s.joinThrough r u).streams = s.streams := rfl
@[simp] theorem State.joinThrough_link (s : State) (r : SpRequest) (u : WriteUse) : (s.joinThrough r u).link = s.link := rfl
@[simp] theorem State.joinThrough_apply (s : State) (r : SpRequest) (u : WriteUse) : (s.joinThrough r u).apply = s.apply := rfl
@[simp] theorem State.joinThrough_holds (s : State) (r : SpRequest) (u : WriteUse) : (s.joinThrough r u).holds = s.holds := rfl
@[simp] theorem State.joinThrough_engine (s : State) (r : SpRequest) (u : WriteUse) : (s.joinThrough r u).engine = s.engine := rfl
@[simp] theorem State.joinThrough_audit (s : State) (r : SpRequest) (u : WriteUse) : (s.joinThrough r u).audit = s.audit := rfl
@[simp] theorem State.joinThrough_mgmt (s : State) (r : SpRequest) (u : WriteUse) : (s.joinThrough r u).mgmt = s.mgmt := rfl
@[simp] theorem State.joinThrough_events (s : State) (r : SpRequest) (u : WriteUse) : (s.joinThrough r u).events = s.events := rfl
@[simp] theorem State.joinThrough_global (s : State) (r : SpRequest) (u : WriteUse) : (s.joinThrough r u).global = s.global := rfl
@[simp] theorem State.joinThrough_softReset (s : State) (r : SpRequest) (u : WriteUse) : (s.joinThrough r u).softReset = s.softReset := rfl
@[simp] theorem State.joinThrough_resetAsserted (s : State) (r : SpRequest) (u : WriteUse) : (s.joinThrough r u).resetAsserted = s.resetAsserted := rfl
@[simp] theorem State.joinThrough_out (s : State) (r : SpRequest) (u : WriteUse) : (s.joinThrough r u).out = s.out := rfl
@[simp] theorem State.joinThrough_owed (s : State) (r : SpRequest) (u : WriteUse) : (s.joinThrough r u).owed = s.owed := rfl
@[simp] theorem State.joinThrough_choices (s : State) (r : SpRequest) (u : WriteUse) : (s.joinThrough r u).choices = s.choices := rfl
@[simp] theorem State.joinThrough_pending (s : State) (r : SpRequest) (u : WriteUse) : (s.joinThrough r u).pending = s.pending := rfl

@[simp] theorem State.perform_sp (s : State) (a : Addr) : (s.perform a).sp = s.sp := rfl
@[simp] theorem State.perform_windows (s : State) (a : Addr) : (s.perform a).windows = s.windows := rfl
@[simp] theorem State.perform_pool (s : State) (a : Addr) : (s.perform a).pool = s.pool := rfl
@[simp] theorem State.perform_streams (s : State) (a : Addr) : (s.perform a).streams = s.streams := rfl
@[simp] theorem State.perform_link (s : State) (a : Addr) : (s.perform a).link = s.link := rfl
@[simp] theorem State.perform_apply (s : State) (a : Addr) : (s.perform a).apply = s.apply := rfl
@[simp] theorem State.perform_holds (s : State) (a : Addr) : (s.perform a).holds = s.holds := rfl
@[simp] theorem State.perform_mp (s : State) (a : Addr) : (s.perform a).mp = s.mp := rfl
@[simp] theorem State.perform_mgmt (s : State) (a : Addr) : (s.perform a).mgmt = s.mgmt := rfl
@[simp] theorem State.perform_events (s : State) (a : Addr) : (s.perform a).events = s.events := rfl
@[simp] theorem State.perform_global (s : State) (a : Addr) : (s.perform a).global = s.global := rfl
@[simp] theorem State.perform_softReset (s : State) (a : Addr) : (s.perform a).softReset = s.softReset := rfl
@[simp] theorem State.perform_resetAsserted (s : State) (a : Addr) : (s.perform a).resetAsserted = s.resetAsserted := rfl
@[simp] theorem State.perform_out (s : State) (a : Addr) : (s.perform a).out = s.out := rfl
@[simp] theorem State.perform_owed (s : State) (a : Addr) : (s.perform a).owed = s.owed := rfl
@[simp] theorem State.perform_choices (s : State) (a : Addr) : (s.perform a).choices = s.choices := rfl
@[simp] theorem State.perform_pending (s : State) (a : Addr) : (s.perform a).pending = s.pending := rfl

@[simp] theorem State.changeState_sp (s : State) (i : StreamId) (x : StreamState) (c : Cause) (r : Reason) : (s.changeState i x c r).sp = s.sp := rfl
@[simp] theorem State.changeState_windows (s : State) (i : StreamId) (x : StreamState) (c : Cause) (r : Reason) : (s.changeState i x c r).windows = s.windows := rfl
@[simp] theorem State.changeState_pool (s : State) (i : StreamId) (x : StreamState) (c : Cause) (r : Reason) : (s.changeState i x c r).pool = s.pool := rfl
@[simp] theorem State.changeState_link (s : State) (i : StreamId) (x : StreamState) (c : Cause) (r : Reason) : (s.changeState i x c r).link = s.link := rfl
@[simp] theorem State.changeState_apply (s : State) (i : StreamId) (x : StreamState) (c : Cause) (r : Reason) : (s.changeState i x c r).apply = s.apply := rfl
@[simp] theorem State.changeState_holds (s : State) (i : StreamId) (x : StreamState) (c : Cause) (r : Reason) : (s.changeState i x c r).holds = s.holds := rfl
@[simp] theorem State.changeState_engine (s : State) (i : StreamId) (x : StreamState) (c : Cause) (r : Reason) : (s.changeState i x c r).engine = s.engine := rfl
@[simp] theorem State.changeState_audit (s : State) (i : StreamId) (x : StreamState) (c : Cause) (r : Reason) : (s.changeState i x c r).audit = s.audit := rfl
@[simp] theorem State.changeState_mp (s : State) (i : StreamId) (x : StreamState) (c : Cause) (r : Reason) : (s.changeState i x c r).mp = s.mp := rfl
@[simp] theorem State.changeState_mgmt (s : State) (i : StreamId) (x : StreamState) (c : Cause) (r : Reason) : (s.changeState i x c r).mgmt = s.mgmt := rfl
@[simp] theorem State.changeState_events (s : State) (i : StreamId) (x : StreamState) (c : Cause) (r : Reason) : (s.changeState i x c r).events = s.events := rfl
@[simp] theorem State.changeState_global (s : State) (i : StreamId) (x : StreamState) (c : Cause) (r : Reason) : (s.changeState i x c r).global = s.global := rfl
@[simp] theorem State.changeState_softReset (s : State) (i : StreamId) (x : StreamState) (c : Cause) (r : Reason) : (s.changeState i x c r).softReset = s.softReset := rfl
@[simp] theorem State.changeState_resetAsserted (s : State) (i : StreamId) (x : StreamState) (c : Cause) (r : Reason) : (s.changeState i x c r).resetAsserted = s.resetAsserted := rfl
@[simp] theorem State.changeState_out (s : State) (i : StreamId) (x : StreamState) (c : Cause) (r : Reason) : (s.changeState i x c r).out = s.out := rfl
@[simp] theorem State.changeState_choices (s : State) (i : StreamId) (x : StreamState) (c : Cause) (r : Reason) : (s.changeState i x c r).choices = s.choices := rfl
@[simp] theorem State.changeState_pending (s : State) (i : StreamId) (x : StreamState) (c : Cause) (r : Reason) : (s.changeState i x c r).pending = s.pending := rfl

@[simp] theorem State.request3_sp (s : State) (q : HandshakeReq) : (s.request3 q).sp = s.sp := rfl
@[simp] theorem State.request3_windows (s : State) (q : HandshakeReq) : (s.request3 q).windows = s.windows := rfl
@[simp] theorem State.request3_pool (s : State) (q : HandshakeReq) : (s.request3 q).pool = s.pool := rfl
@[simp] theorem State.request3_streams (s : State) (q : HandshakeReq) : (s.request3 q).streams = s.streams := rfl
@[simp] theorem State.request3_apply (s : State) (q : HandshakeReq) : (s.request3 q).apply = s.apply := rfl
@[simp] theorem State.request3_holds (s : State) (q : HandshakeReq) : (s.request3 q).holds = s.holds := rfl
@[simp] theorem State.request3_engine (s : State) (q : HandshakeReq) : (s.request3 q).engine = s.engine := rfl
@[simp] theorem State.request3_audit (s : State) (q : HandshakeReq) : (s.request3 q).audit = s.audit := rfl
@[simp] theorem State.request3_mp (s : State) (q : HandshakeReq) : (s.request3 q).mp = s.mp := rfl
@[simp] theorem State.request3_mgmt (s : State) (q : HandshakeReq) : (s.request3 q).mgmt = s.mgmt := rfl
@[simp] theorem State.request3_events (s : State) (q : HandshakeReq) : (s.request3 q).events = s.events := rfl
@[simp] theorem State.request3_global (s : State) (q : HandshakeReq) : (s.request3 q).global = s.global := rfl
@[simp] theorem State.request3_softReset (s : State) (q : HandshakeReq) : (s.request3 q).softReset = s.softReset := rfl
@[simp] theorem State.request3_resetAsserted (s : State) (q : HandshakeReq) : (s.request3 q).resetAsserted = s.resetAsserted := rfl
@[simp] theorem State.request3_out (s : State) (q : HandshakeReq) : (s.request3 q).out = s.out := rfl
@[simp] theorem State.request3_owed (s : State) (q : HandshakeReq) : (s.request3 q).owed = s.owed := rfl
@[simp] theorem State.request3_choices (s : State) (q : HandshakeReq) : (s.request3 q).choices = s.choices := rfl
@[simp] theorem State.request3_pending (s : State) (q : HandshakeReq) : (s.request3 q).pending = s.pending := rfl

@[simp] theorem State.setEngine_sp (s : State) (e : EngineState) : (s.setEngine e).sp = s.sp := rfl
@[simp] theorem State.setEngine_windows (s : State) (e : EngineState) : (s.setEngine e).windows = s.windows := rfl
@[simp] theorem State.setEngine_pool (s : State) (e : EngineState) : (s.setEngine e).pool = s.pool := rfl
@[simp] theorem State.setEngine_streams (s : State) (e : EngineState) : (s.setEngine e).streams = s.streams := rfl
@[simp] theorem State.setEngine_link (s : State) (e : EngineState) : (s.setEngine e).link = s.link := rfl
@[simp] theorem State.setEngine_apply (s : State) (e : EngineState) : (s.setEngine e).apply = s.apply := rfl
@[simp] theorem State.setEngine_holds (s : State) (e : EngineState) : (s.setEngine e).holds = s.holds := rfl
@[simp] theorem State.setEngine_audit (s : State) (e : EngineState) : (s.setEngine e).audit = s.audit := rfl
@[simp] theorem State.setEngine_mp (s : State) (e : EngineState) : (s.setEngine e).mp = s.mp := rfl
@[simp] theorem State.setEngine_mgmt (s : State) (e : EngineState) : (s.setEngine e).mgmt = s.mgmt := rfl
@[simp] theorem State.setEngine_events (s : State) (e : EngineState) : (s.setEngine e).events = s.events := rfl
@[simp] theorem State.setEngine_global (s : State) (e : EngineState) : (s.setEngine e).global = s.global := rfl
@[simp] theorem State.setEngine_softReset (s : State) (e : EngineState) : (s.setEngine e).softReset = s.softReset := rfl
@[simp] theorem State.setEngine_resetAsserted (s : State) (e : EngineState) : (s.setEngine e).resetAsserted = s.resetAsserted := rfl
@[simp] theorem State.setEngine_out (s : State) (e : EngineState) : (s.setEngine e).out = s.out := rfl
@[simp] theorem State.setEngine_owed (s : State) (e : EngineState) : (s.setEngine e).owed = s.owed := rfl
@[simp] theorem State.setEngine_choices (s : State) (e : EngineState) : (s.setEngine e).choices = s.choices := rfl
@[simp] theorem State.setEngine_pending (s : State) (e : EngineState) : (s.setEngine e).pending = s.pending := rfl

@[simp] theorem State.setInitiator_sp (s : State) (j : Initiator) : (s.setInitiator j).sp = s.sp := rfl
@[simp] theorem State.setInitiator_windows (s : State) (j : Initiator) : (s.setInitiator j).windows = s.windows := rfl
@[simp] theorem State.setInitiator_pool (s : State) (j : Initiator) : (s.setInitiator j).pool = s.pool := rfl
@[simp] theorem State.setInitiator_streams (s : State) (j : Initiator) : (s.setInitiator j).streams = s.streams := rfl
@[simp] theorem State.setInitiator_link (s : State) (j : Initiator) : (s.setInitiator j).link = s.link := rfl
@[simp] theorem State.setInitiator_apply (s : State) (j : Initiator) : (s.setInitiator j).apply = s.apply := rfl
@[simp] theorem State.setInitiator_holds (s : State) (j : Initiator) : (s.setInitiator j).holds = s.holds := rfl
@[simp] theorem State.setInitiator_engine (s : State) (j : Initiator) : (s.setInitiator j).engine = s.engine := rfl
@[simp] theorem State.setInitiator_mp (s : State) (j : Initiator) : (s.setInitiator j).mp = s.mp := rfl
@[simp] theorem State.setInitiator_mgmt (s : State) (j : Initiator) : (s.setInitiator j).mgmt = s.mgmt := rfl
@[simp] theorem State.setInitiator_events (s : State) (j : Initiator) : (s.setInitiator j).events = s.events := rfl
@[simp] theorem State.setInitiator_global (s : State) (j : Initiator) : (s.setInitiator j).global = s.global := rfl
@[simp] theorem State.setInitiator_softReset (s : State) (j : Initiator) : (s.setInitiator j).softReset = s.softReset := rfl
@[simp] theorem State.setInitiator_resetAsserted (s : State) (j : Initiator) : (s.setInitiator j).resetAsserted = s.resetAsserted := rfl
@[simp] theorem State.setInitiator_out (s : State) (j : Initiator) : (s.setInitiator j).out = s.out := rfl
@[simp] theorem State.setInitiator_owed (s : State) (j : Initiator) : (s.setInitiator j).owed = s.owed := rfl
@[simp] theorem State.setInitiator_choices (s : State) (j : Initiator) : (s.setInitiator j).choices = s.choices := rfl
@[simp] theorem State.setInitiator_pending (s : State) (j : Initiator) : (s.setInitiator j).pending = s.pending := rfl

@[simp] theorem State.setResponder_sp (s : State) (j : Responder) : (s.setResponder j).sp = s.sp := rfl
@[simp] theorem State.setResponder_windows (s : State) (j : Responder) : (s.setResponder j).windows = s.windows := rfl
@[simp] theorem State.setResponder_pool (s : State) (j : Responder) : (s.setResponder j).pool = s.pool := rfl
@[simp] theorem State.setResponder_streams (s : State) (j : Responder) : (s.setResponder j).streams = s.streams := rfl
@[simp] theorem State.setResponder_link (s : State) (j : Responder) : (s.setResponder j).link = s.link := rfl
@[simp] theorem State.setResponder_apply (s : State) (j : Responder) : (s.setResponder j).apply = s.apply := rfl
@[simp] theorem State.setResponder_holds (s : State) (j : Responder) : (s.setResponder j).holds = s.holds := rfl
@[simp] theorem State.setResponder_engine (s : State) (j : Responder) : (s.setResponder j).engine = s.engine := rfl
@[simp] theorem State.setResponder_mp (s : State) (j : Responder) : (s.setResponder j).mp = s.mp := rfl
@[simp] theorem State.setResponder_mgmt (s : State) (j : Responder) : (s.setResponder j).mgmt = s.mgmt := rfl
@[simp] theorem State.setResponder_events (s : State) (j : Responder) : (s.setResponder j).events = s.events := rfl
@[simp] theorem State.setResponder_global (s : State) (j : Responder) : (s.setResponder j).global = s.global := rfl
@[simp] theorem State.setResponder_softReset (s : State) (j : Responder) : (s.setResponder j).softReset = s.softReset := rfl
@[simp] theorem State.setResponder_resetAsserted (s : State) (j : Responder) : (s.setResponder j).resetAsserted = s.resetAsserted := rfl
@[simp] theorem State.setResponder_out (s : State) (j : Responder) : (s.setResponder j).out = s.out := rfl
@[simp] theorem State.setResponder_owed (s : State) (j : Responder) : (s.setResponder j).owed = s.owed := rfl
@[simp] theorem State.setResponder_choices (s : State) (j : Responder) : (s.setResponder j).choices = s.choices := rfl
@[simp] theorem State.setResponder_pending (s : State) (j : Responder) : (s.setResponder j).pending = s.pending := rfl

@[simp] theorem State.setSlotWait_windows (s : State) (w : Option SlotWait) : (s.setSlotWait w).windows = s.windows := rfl
@[simp] theorem State.setSlotWait_pool (s : State) (w : Option SlotWait) : (s.setSlotWait w).pool = s.pool := rfl
@[simp] theorem State.setSlotWait_streams (s : State) (w : Option SlotWait) : (s.setSlotWait w).streams = s.streams := rfl
@[simp] theorem State.setSlotWait_link (s : State) (w : Option SlotWait) : (s.setSlotWait w).link = s.link := rfl
@[simp] theorem State.setSlotWait_apply (s : State) (w : Option SlotWait) : (s.setSlotWait w).apply = s.apply := rfl
@[simp] theorem State.setSlotWait_holds (s : State) (w : Option SlotWait) : (s.setSlotWait w).holds = s.holds := rfl
@[simp] theorem State.setSlotWait_engine (s : State) (w : Option SlotWait) : (s.setSlotWait w).engine = s.engine := rfl
@[simp] theorem State.setSlotWait_audit (s : State) (w : Option SlotWait) : (s.setSlotWait w).audit = s.audit := rfl
@[simp] theorem State.setSlotWait_mp (s : State) (w : Option SlotWait) : (s.setSlotWait w).mp = s.mp := rfl
@[simp] theorem State.setSlotWait_mgmt (s : State) (w : Option SlotWait) : (s.setSlotWait w).mgmt = s.mgmt := rfl
@[simp] theorem State.setSlotWait_events (s : State) (w : Option SlotWait) : (s.setSlotWait w).events = s.events := rfl
@[simp] theorem State.setSlotWait_global (s : State) (w : Option SlotWait) : (s.setSlotWait w).global = s.global := rfl
@[simp] theorem State.setSlotWait_softReset (s : State) (w : Option SlotWait) : (s.setSlotWait w).softReset = s.softReset := rfl
@[simp] theorem State.setSlotWait_resetAsserted (s : State) (w : Option SlotWait) : (s.setSlotWait w).resetAsserted = s.resetAsserted := rfl
@[simp] theorem State.setSlotWait_out (s : State) (w : Option SlotWait) : (s.setSlotWait w).out = s.out := rfl
@[simp] theorem State.setSlotWait_owed (s : State) (w : Option SlotWait) : (s.setSlotWait w).owed = s.owed := rfl
@[simp] theorem State.setSlotWait_choices (s : State) (w : Option SlotWait) : (s.setSlotWait w).choices = s.choices := rfl
@[simp] theorem State.setSlotWait_pending (s : State) (w : Option SlotWait) : (s.setSlotWait w).pending = s.pending := rfl

@[simp] theorem State.dropHead_windows (s : State) : s.dropHead.windows = s.windows := rfl
@[simp] theorem State.dropHead_pool (s : State) : s.dropHead.pool = s.pool := rfl
@[simp] theorem State.dropHead_streams (s : State) : s.dropHead.streams = s.streams := rfl
@[simp] theorem State.dropHead_link (s : State) : s.dropHead.link = s.link := rfl
@[simp] theorem State.dropHead_apply (s : State) : s.dropHead.apply = s.apply := rfl
@[simp] theorem State.dropHead_holds (s : State) : s.dropHead.holds = s.holds := rfl
@[simp] theorem State.dropHead_engine (s : State) : s.dropHead.engine = s.engine := rfl
@[simp] theorem State.dropHead_audit (s : State) : s.dropHead.audit = s.audit := rfl
@[simp] theorem State.dropHead_mp (s : State) : s.dropHead.mp = s.mp := rfl
@[simp] theorem State.dropHead_mgmt (s : State) : s.dropHead.mgmt = s.mgmt := rfl
@[simp] theorem State.dropHead_events (s : State) : s.dropHead.events = s.events := rfl
@[simp] theorem State.dropHead_global (s : State) : s.dropHead.global = s.global := rfl
@[simp] theorem State.dropHead_softReset (s : State) : s.dropHead.softReset = s.softReset := rfl
@[simp] theorem State.dropHead_resetAsserted (s : State) : s.dropHead.resetAsserted = s.resetAsserted := rfl
@[simp] theorem State.dropHead_out (s : State) : s.dropHead.out = s.out := rfl
@[simp] theorem State.dropHead_owed (s : State) : s.dropHead.owed = s.owed := rfl
@[simp] theorem State.dropHead_choices (s : State) : s.dropHead.choices = s.choices := rfl
@[simp] theorem State.dropHead_pending (s : State) : s.dropHead.pending = s.pending := rfl

@[simp] theorem State.setSpi_sp (s : State) (p : SpiPort) : (s.setSpi p).sp = s.sp := rfl
@[simp] theorem State.setSpi_windows (s : State) (p : SpiPort) : (s.setSpi p).windows = s.windows := rfl
@[simp] theorem State.setSpi_pool (s : State) (p : SpiPort) : (s.setSpi p).pool = s.pool := rfl
@[simp] theorem State.setSpi_streams (s : State) (p : SpiPort) : (s.setSpi p).streams = s.streams := rfl
@[simp] theorem State.setSpi_link (s : State) (p : SpiPort) : (s.setSpi p).link = s.link := rfl
@[simp] theorem State.setSpi_apply (s : State) (p : SpiPort) : (s.setSpi p).apply = s.apply := rfl
@[simp] theorem State.setSpi_holds (s : State) (p : SpiPort) : (s.setSpi p).holds = s.holds := rfl
@[simp] theorem State.setSpi_engine (s : State) (p : SpiPort) : (s.setSpi p).engine = s.engine := rfl
@[simp] theorem State.setSpi_audit (s : State) (p : SpiPort) : (s.setSpi p).audit = s.audit := rfl
@[simp] theorem State.setSpi_mp (s : State) (p : SpiPort) : (s.setSpi p).mp = s.mp := rfl
@[simp] theorem State.setSpi_events (s : State) (p : SpiPort) : (s.setSpi p).events = s.events := rfl
@[simp] theorem State.setSpi_global (s : State) (p : SpiPort) : (s.setSpi p).global = s.global := rfl
@[simp] theorem State.setSpi_softReset (s : State) (p : SpiPort) : (s.setSpi p).softReset = s.softReset := rfl
@[simp] theorem State.setSpi_resetAsserted (s : State) (p : SpiPort) : (s.setSpi p).resetAsserted = s.resetAsserted := rfl
@[simp] theorem State.setSpi_out (s : State) (p : SpiPort) : (s.setSpi p).out = s.out := rfl
@[simp] theorem State.setSpi_owed (s : State) (p : SpiPort) : (s.setSpi p).owed = s.owed := rfl
@[simp] theorem State.setSpi_choices (s : State) (p : SpiPort) : (s.setSpi p).choices = s.choices := rfl
@[simp] theorem State.setSpi_pending (s : State) (p : SpiPort) : (s.setSpi p).pending = s.pending := rfl

@[simp] theorem State.setResult_sp (s : State) (o : CommandOutcome) (c : Byte) (i : StreamId) : (s.setResult o c i).sp = s.sp := rfl
@[simp] theorem State.setResult_windows (s : State) (o : CommandOutcome) (c : Byte) (i : StreamId) : (s.setResult o c i).windows = s.windows := rfl
@[simp] theorem State.setResult_pool (s : State) (o : CommandOutcome) (c : Byte) (i : StreamId) : (s.setResult o c i).pool = s.pool := rfl
@[simp] theorem State.setResult_streams (s : State) (o : CommandOutcome) (c : Byte) (i : StreamId) : (s.setResult o c i).streams = s.streams := rfl
@[simp] theorem State.setResult_link (s : State) (o : CommandOutcome) (c : Byte) (i : StreamId) : (s.setResult o c i).link = s.link := rfl
@[simp] theorem State.setResult_apply (s : State) (o : CommandOutcome) (c : Byte) (i : StreamId) : (s.setResult o c i).apply = s.apply := rfl
@[simp] theorem State.setResult_holds (s : State) (o : CommandOutcome) (c : Byte) (i : StreamId) : (s.setResult o c i).holds = s.holds := rfl
@[simp] theorem State.setResult_engine (s : State) (o : CommandOutcome) (c : Byte) (i : StreamId) : (s.setResult o c i).engine = s.engine := rfl
@[simp] theorem State.setResult_audit (s : State) (o : CommandOutcome) (c : Byte) (i : StreamId) : (s.setResult o c i).audit = s.audit := rfl
@[simp] theorem State.setResult_mp (s : State) (o : CommandOutcome) (c : Byte) (i : StreamId) : (s.setResult o c i).mp = s.mp := rfl
@[simp] theorem State.setResult_events (s : State) (o : CommandOutcome) (c : Byte) (i : StreamId) : (s.setResult o c i).events = s.events := rfl
@[simp] theorem State.setResult_global (s : State) (o : CommandOutcome) (c : Byte) (i : StreamId) : (s.setResult o c i).global = s.global := rfl
@[simp] theorem State.setResult_softReset (s : State) (o : CommandOutcome) (c : Byte) (i : StreamId) : (s.setResult o c i).softReset = s.softReset := rfl
@[simp] theorem State.setResult_resetAsserted (s : State) (o : CommandOutcome) (c : Byte) (i : StreamId) : (s.setResult o c i).resetAsserted = s.resetAsserted := rfl
@[simp] theorem State.setResult_out (s : State) (o : CommandOutcome) (c : Byte) (i : StreamId) : (s.setResult o c i).out = s.out := rfl
@[simp] theorem State.setResult_owed (s : State) (o : CommandOutcome) (c : Byte) (i : StreamId) : (s.setResult o c i).owed = s.owed := rfl
@[simp] theorem State.setResult_choices (s : State) (o : CommandOutcome) (c : Byte) (i : StreamId) : (s.setResult o c i).choices = s.choices := rfl
@[simp] theorem State.setResult_pending (s : State) (o : CommandOutcome) (c : Byte) (i : StreamId) : (s.setResult o c i).pending = s.pending := rfl

@[simp] theorem State.issue_sp (s : State) (m : MpRequest) : (s.issue m).sp = s.sp := rfl
@[simp] theorem State.issue_windows (s : State) (m : MpRequest) : (s.issue m).windows = s.windows := rfl
@[simp] theorem State.issue_pool (s : State) (m : MpRequest) : (s.issue m).pool = s.pool := rfl
@[simp] theorem State.issue_streams (s : State) (m : MpRequest) : (s.issue m).streams = s.streams := rfl
@[simp] theorem State.issue_link (s : State) (m : MpRequest) : (s.issue m).link = s.link := rfl
@[simp] theorem State.issue_apply (s : State) (m : MpRequest) : (s.issue m).apply = s.apply := rfl
@[simp] theorem State.issue_holds (s : State) (m : MpRequest) : (s.issue m).holds = s.holds := rfl
@[simp] theorem State.issue_engine (s : State) (m : MpRequest) : (s.issue m).engine = s.engine := rfl
@[simp] theorem State.issue_audit (s : State) (m : MpRequest) : (s.issue m).audit = s.audit := rfl
@[simp] theorem State.issue_mgmt (s : State) (m : MpRequest) : (s.issue m).mgmt = s.mgmt := rfl
@[simp] theorem State.issue_events (s : State) (m : MpRequest) : (s.issue m).events = s.events := rfl
@[simp] theorem State.issue_global (s : State) (m : MpRequest) : (s.issue m).global = s.global := rfl
@[simp] theorem State.issue_softReset (s : State) (m : MpRequest) : (s.issue m).softReset = s.softReset := rfl
@[simp] theorem State.issue_resetAsserted (s : State) (m : MpRequest) : (s.issue m).resetAsserted = s.resetAsserted := rfl
@[simp] theorem State.issue_owed (s : State) (m : MpRequest) : (s.issue m).owed = s.owed := rfl
@[simp] theorem State.issue_choices (s : State) (m : MpRequest) : (s.issue m).choices = s.choices := rfl
@[simp] theorem State.issue_pending (s : State) (m : MpRequest) : (s.issue m).pending = s.pending := rfl

@[simp] theorem State.setLastSide_sp (s : State) (x : Side) : (s.setLastSide x).sp = s.sp := rfl
@[simp] theorem State.setLastSide_windows (s : State) (x : Side) : (s.setLastSide x).windows = s.windows := rfl
@[simp] theorem State.setLastSide_pool (s : State) (x : Side) : (s.setLastSide x).pool = s.pool := rfl
@[simp] theorem State.setLastSide_streams (s : State) (x : Side) : (s.setLastSide x).streams = s.streams := rfl
@[simp] theorem State.setLastSide_link (s : State) (x : Side) : (s.setLastSide x).link = s.link := rfl
@[simp] theorem State.setLastSide_apply (s : State) (x : Side) : (s.setLastSide x).apply = s.apply := rfl
@[simp] theorem State.setLastSide_holds (s : State) (x : Side) : (s.setLastSide x).holds = s.holds := rfl
@[simp] theorem State.setLastSide_engine (s : State) (x : Side) : (s.setLastSide x).engine = s.engine := rfl
@[simp] theorem State.setLastSide_audit (s : State) (x : Side) : (s.setLastSide x).audit = s.audit := rfl
@[simp] theorem State.setLastSide_mgmt (s : State) (x : Side) : (s.setLastSide x).mgmt = s.mgmt := rfl
@[simp] theorem State.setLastSide_events (s : State) (x : Side) : (s.setLastSide x).events = s.events := rfl
@[simp] theorem State.setLastSide_global (s : State) (x : Side) : (s.setLastSide x).global = s.global := rfl
@[simp] theorem State.setLastSide_softReset (s : State) (x : Side) : (s.setLastSide x).softReset = s.softReset := rfl
@[simp] theorem State.setLastSide_resetAsserted (s : State) (x : Side) : (s.setLastSide x).resetAsserted = s.resetAsserted := rfl
@[simp] theorem State.setLastSide_out (s : State) (x : Side) : (s.setLastSide x).out = s.out := rfl
@[simp] theorem State.setLastSide_owed (s : State) (x : Side) : (s.setLastSide x).owed = s.owed := rfl
@[simp] theorem State.setLastSide_choices (s : State) (x : Side) : (s.setLastSide x).choices = s.choices := rfl
@[simp] theorem State.setLastSide_pending (s : State) (x : Side) : (s.setLastSide x).pending = s.pending := rfl

@[simp] theorem State.setReaderPointer_sp (s : State) (x : Reader) : (s.setReaderPointer x).sp = s.sp := rfl
@[simp] theorem State.setReaderPointer_windows (s : State) (x : Reader) : (s.setReaderPointer x).windows = s.windows := rfl
@[simp] theorem State.setReaderPointer_pool (s : State) (x : Reader) : (s.setReaderPointer x).pool = s.pool := rfl
@[simp] theorem State.setReaderPointer_streams (s : State) (x : Reader) : (s.setReaderPointer x).streams = s.streams := rfl
@[simp] theorem State.setReaderPointer_link (s : State) (x : Reader) : (s.setReaderPointer x).link = s.link := rfl
@[simp] theorem State.setReaderPointer_apply (s : State) (x : Reader) : (s.setReaderPointer x).apply = s.apply := rfl
@[simp] theorem State.setReaderPointer_holds (s : State) (x : Reader) : (s.setReaderPointer x).holds = s.holds := rfl
@[simp] theorem State.setReaderPointer_engine (s : State) (x : Reader) : (s.setReaderPointer x).engine = s.engine := rfl
@[simp] theorem State.setReaderPointer_audit (s : State) (x : Reader) : (s.setReaderPointer x).audit = s.audit := rfl
@[simp] theorem State.setReaderPointer_mgmt (s : State) (x : Reader) : (s.setReaderPointer x).mgmt = s.mgmt := rfl
@[simp] theorem State.setReaderPointer_events (s : State) (x : Reader) : (s.setReaderPointer x).events = s.events := rfl
@[simp] theorem State.setReaderPointer_global (s : State) (x : Reader) : (s.setReaderPointer x).global = s.global := rfl
@[simp] theorem State.setReaderPointer_softReset (s : State) (x : Reader) : (s.setReaderPointer x).softReset = s.softReset := rfl
@[simp] theorem State.setReaderPointer_resetAsserted (s : State) (x : Reader) : (s.setReaderPointer x).resetAsserted = s.resetAsserted := rfl
@[simp] theorem State.setReaderPointer_out (s : State) (x : Reader) : (s.setReaderPointer x).out = s.out := rfl
@[simp] theorem State.setReaderPointer_owed (s : State) (x : Reader) : (s.setReaderPointer x).owed = s.owed := rfl
@[simp] theorem State.setReaderPointer_choices (s : State) (x : Reader) : (s.setReaderPointer x).choices = s.choices := rfl
@[simp] theorem State.setReaderPointer_pending (s : State) (x : Reader) : (s.setReaderPointer x).pending = s.pending := rfl

@[simp] theorem State.retireTag_sp (s : State) (t : MpTag) : (s.retireTag t).sp = s.sp := rfl
@[simp] theorem State.retireTag_windows (s : State) (t : MpTag) : (s.retireTag t).windows = s.windows := rfl
@[simp] theorem State.retireTag_pool (s : State) (t : MpTag) : (s.retireTag t).pool = s.pool := rfl
@[simp] theorem State.retireTag_streams (s : State) (t : MpTag) : (s.retireTag t).streams = s.streams := rfl
@[simp] theorem State.retireTag_link (s : State) (t : MpTag) : (s.retireTag t).link = s.link := rfl
@[simp] theorem State.retireTag_apply (s : State) (t : MpTag) : (s.retireTag t).apply = s.apply := rfl
@[simp] theorem State.retireTag_holds (s : State) (t : MpTag) : (s.retireTag t).holds = s.holds := rfl
@[simp] theorem State.retireTag_engine (s : State) (t : MpTag) : (s.retireTag t).engine = s.engine := rfl
@[simp] theorem State.retireTag_audit (s : State) (t : MpTag) : (s.retireTag t).audit = s.audit := rfl
@[simp] theorem State.retireTag_mgmt (s : State) (t : MpTag) : (s.retireTag t).mgmt = s.mgmt := rfl
@[simp] theorem State.retireTag_events (s : State) (t : MpTag) : (s.retireTag t).events = s.events := rfl
@[simp] theorem State.retireTag_global (s : State) (t : MpTag) : (s.retireTag t).global = s.global := rfl
@[simp] theorem State.retireTag_softReset (s : State) (t : MpTag) : (s.retireTag t).softReset = s.softReset := rfl
@[simp] theorem State.retireTag_resetAsserted (s : State) (t : MpTag) : (s.retireTag t).resetAsserted = s.resetAsserted := rfl
@[simp] theorem State.retireTag_out (s : State) (t : MpTag) : (s.retireTag t).out = s.out := rfl
@[simp] theorem State.retireTag_owed (s : State) (t : MpTag) : (s.retireTag t).owed = s.owed := rfl
@[simp] theorem State.retireTag_choices (s : State) (t : MpTag) : (s.retireTag t).choices = s.choices := rfl
@[simp] theorem State.retireTag_pending (s : State) (t : MpTag) : (s.retireTag t).pending = s.pending := rfl

@[simp] theorem State.sendFrame_sp (s : State) (f : Frame) : (s.sendFrame f).sp = s.sp := rfl
@[simp] theorem State.sendFrame_windows (s : State) (f : Frame) : (s.sendFrame f).windows = s.windows := rfl
@[simp] theorem State.sendFrame_pool (s : State) (f : Frame) : (s.sendFrame f).pool = s.pool := rfl
@[simp] theorem State.sendFrame_streams (s : State) (f : Frame) : (s.sendFrame f).streams = s.streams := rfl
@[simp] theorem State.sendFrame_link (s : State) (f : Frame) : (s.sendFrame f).link = s.link := rfl
@[simp] theorem State.sendFrame_apply (s : State) (f : Frame) : (s.sendFrame f).apply = s.apply := rfl
@[simp] theorem State.sendFrame_holds (s : State) (f : Frame) : (s.sendFrame f).holds = s.holds := rfl
@[simp] theorem State.sendFrame_engine (s : State) (f : Frame) : (s.sendFrame f).engine = s.engine := rfl
@[simp] theorem State.sendFrame_audit (s : State) (f : Frame) : (s.sendFrame f).audit = s.audit := rfl
@[simp] theorem State.sendFrame_mp (s : State) (f : Frame) : (s.sendFrame f).mp = s.mp := rfl
@[simp] theorem State.sendFrame_mgmt (s : State) (f : Frame) : (s.sendFrame f).mgmt = s.mgmt := rfl
@[simp] theorem State.sendFrame_events (s : State) (f : Frame) : (s.sendFrame f).events = s.events := rfl
@[simp] theorem State.sendFrame_global (s : State) (f : Frame) : (s.sendFrame f).global = s.global := rfl
@[simp] theorem State.sendFrame_softReset (s : State) (f : Frame) : (s.sendFrame f).softReset = s.softReset := rfl
@[simp] theorem State.sendFrame_resetAsserted (s : State) (f : Frame) : (s.sendFrame f).resetAsserted = s.resetAsserted := rfl
@[simp] theorem State.sendFrame_owed (s : State) (f : Frame) : (s.sendFrame f).owed = s.owed := rfl
@[simp] theorem State.sendFrame_choices (s : State) (f : Frame) : (s.sendFrame f).choices = s.choices := rfl
@[simp] theorem State.sendFrame_pending (s : State) (f : Frame) : (s.sendFrame f).pending = s.pending := rfl

@[simp] theorem State.creditsReturned_sp (s : State) : s.creditsReturned.sp = s.sp := rfl
@[simp] theorem State.creditsReturned_windows (s : State) : s.creditsReturned.windows = s.windows := rfl
@[simp] theorem State.creditsReturned_pool (s : State) : s.creditsReturned.pool = s.pool := rfl
@[simp] theorem State.creditsReturned_streams (s : State) : s.creditsReturned.streams = s.streams := rfl
@[simp] theorem State.creditsReturned_link (s : State) : s.creditsReturned.link = s.link := rfl
@[simp] theorem State.creditsReturned_holds (s : State) : s.creditsReturned.holds = s.holds := rfl
@[simp] theorem State.creditsReturned_engine (s : State) : s.creditsReturned.engine = s.engine := rfl
@[simp] theorem State.creditsReturned_audit (s : State) : s.creditsReturned.audit = s.audit := rfl
@[simp] theorem State.creditsReturned_mp (s : State) : s.creditsReturned.mp = s.mp := rfl
@[simp] theorem State.creditsReturned_mgmt (s : State) : s.creditsReturned.mgmt = s.mgmt := rfl
@[simp] theorem State.creditsReturned_events (s : State) : s.creditsReturned.events = s.events := rfl
@[simp] theorem State.creditsReturned_global (s : State) : s.creditsReturned.global = s.global := rfl
@[simp] theorem State.creditsReturned_softReset (s : State) : s.creditsReturned.softReset = s.softReset := rfl
@[simp] theorem State.creditsReturned_resetAsserted (s : State) : s.creditsReturned.resetAsserted = s.resetAsserted := rfl
@[simp] theorem State.creditsReturned_out (s : State) : s.creditsReturned.out = s.out := rfl
@[simp] theorem State.creditsReturned_owed (s : State) : s.creditsReturned.owed = s.owed := rfl
@[simp] theorem State.creditsReturned_choices (s : State) : s.creditsReturned.choices = s.choices := rfl
@[simp] theorem State.creditsReturned_pending (s : State) : s.creditsReturned.pending = s.pending := rfl

@[simp] theorem State.put_sp (s : State) (c : EventCode) (x : Option StreamId) (d : BitVec 20) : (s.put c x d).sp = s.sp := by
  unfold State.put; split <;> rfl
@[simp] theorem State.put_windows (s : State) (c : EventCode) (x : Option StreamId) (d : BitVec 20) : (s.put c x d).windows = s.windows := by
  unfold State.put; split <;> rfl
@[simp] theorem State.put_pool (s : State) (c : EventCode) (x : Option StreamId) (d : BitVec 20) : (s.put c x d).pool = s.pool := by
  unfold State.put; split <;> rfl
@[simp] theorem State.put_streams (s : State) (c : EventCode) (x : Option StreamId) (d : BitVec 20) : (s.put c x d).streams = s.streams := by
  unfold State.put; split <;> rfl
@[simp] theorem State.put_link (s : State) (c : EventCode) (x : Option StreamId) (d : BitVec 20) : (s.put c x d).link = s.link := by
  unfold State.put; split <;> rfl
@[simp] theorem State.put_apply (s : State) (c : EventCode) (x : Option StreamId) (d : BitVec 20) : (s.put c x d).apply = s.apply := by
  unfold State.put; split <;> rfl
@[simp] theorem State.put_holds (s : State) (c : EventCode) (x : Option StreamId) (d : BitVec 20) : (s.put c x d).holds = s.holds := by
  unfold State.put; split <;> rfl
@[simp] theorem State.put_engine (s : State) (c : EventCode) (x : Option StreamId) (d : BitVec 20) : (s.put c x d).engine = s.engine := by
  unfold State.put; split <;> rfl
@[simp] theorem State.put_audit (s : State) (c : EventCode) (x : Option StreamId) (d : BitVec 20) : (s.put c x d).audit = s.audit := by
  unfold State.put; split <;> rfl
@[simp] theorem State.put_mp (s : State) (c : EventCode) (x : Option StreamId) (d : BitVec 20) : (s.put c x d).mp = s.mp := by
  unfold State.put; split <;> rfl
@[simp] theorem State.put_mgmt (s : State) (c : EventCode) (x : Option StreamId) (d : BitVec 20) : (s.put c x d).mgmt = s.mgmt := by
  unfold State.put; split <;> rfl
@[simp] theorem State.put_global (s : State) (c : EventCode) (x : Option StreamId) (d : BitVec 20) : (s.put c x d).global = s.global := by
  unfold State.put; split <;> rfl
@[simp] theorem State.put_softReset (s : State) (c : EventCode) (x : Option StreamId) (d : BitVec 20) : (s.put c x d).softReset = s.softReset := by
  unfold State.put; split <;> rfl
@[simp] theorem State.put_resetAsserted (s : State) (c : EventCode) (x : Option StreamId) (d : BitVec 20) : (s.put c x d).resetAsserted = s.resetAsserted := by
  unfold State.put; split <;> rfl
@[simp] theorem State.put_out (s : State) (c : EventCode) (x : Option StreamId) (d : BitVec 20) : (s.put c x d).out = s.out := by
  unfold State.put; split <;> rfl
@[simp] theorem State.put_owed (s : State) (c : EventCode) (x : Option StreamId) (d : BitVec 20) : (s.put c x d).owed = s.owed := by
  unfold State.put; split <;> rfl
@[simp] theorem State.put_choices (s : State) (c : EventCode) (x : Option StreamId) (d : BitVec 20) : (s.put c x d).choices = s.choices := by
  unfold State.put; split <;> rfl
@[simp] theorem State.put_pending (s : State) (c : EventCode) (x : Option StreamId) (d : BitVec 20) : (s.put c x d).pending = s.pending := by
  unfold State.put; split <;> rfl

@[simp] theorem State.request4_sp (s : State) (q : AuditReq) : (s.request4 q).sp = s.sp := by
  unfold State.request4; split <;> rfl
@[simp] theorem State.request4_windows (s : State) (q : AuditReq) : (s.request4 q).windows = s.windows := by
  unfold State.request4; split <;> rfl
@[simp] theorem State.request4_pool (s : State) (q : AuditReq) : (s.request4 q).pool = s.pool := by
  unfold State.request4; split <;> rfl
@[simp] theorem State.request4_streams (s : State) (q : AuditReq) : (s.request4 q).streams = s.streams := by
  unfold State.request4; split <;> rfl
@[simp] theorem State.request4_apply (s : State) (q : AuditReq) : (s.request4 q).apply = s.apply := by
  unfold State.request4; split <;> rfl
@[simp] theorem State.request4_holds (s : State) (q : AuditReq) : (s.request4 q).holds = s.holds := by
  unfold State.request4; split <;> rfl
@[simp] theorem State.request4_engine (s : State) (q : AuditReq) : (s.request4 q).engine = s.engine := by
  unfold State.request4; split <;> rfl
@[simp] theorem State.request4_audit (s : State) (q : AuditReq) : (s.request4 q).audit = s.audit := by
  unfold State.request4; split <;> rfl
@[simp] theorem State.request4_mp (s : State) (q : AuditReq) : (s.request4 q).mp = s.mp := by
  unfold State.request4; split <;> rfl
@[simp] theorem State.request4_mgmt (s : State) (q : AuditReq) : (s.request4 q).mgmt = s.mgmt := by
  unfold State.request4; split <;> rfl
@[simp] theorem State.request4_events (s : State) (q : AuditReq) : (s.request4 q).events = s.events := by
  unfold State.request4; split <;> rfl
@[simp] theorem State.request4_global (s : State) (q : AuditReq) : (s.request4 q).global = s.global := by
  unfold State.request4; split <;> rfl
@[simp] theorem State.request4_softReset (s : State) (q : AuditReq) : (s.request4 q).softReset = s.softReset := by
  unfold State.request4; split <;> rfl
@[simp] theorem State.request4_resetAsserted (s : State) (q : AuditReq) : (s.request4 q).resetAsserted = s.resetAsserted := by
  unfold State.request4; split <;> rfl
@[simp] theorem State.request4_out (s : State) (q : AuditReq) : (s.request4 q).out = s.out := by
  unfold State.request4; split <;> rfl
@[simp] theorem State.request4_owed (s : State) (q : AuditReq) : (s.request4 q).owed = s.owed := by
  unfold State.request4; split <;> rfl
@[simp] theorem State.request4_choices (s : State) (q : AuditReq) : (s.request4 q).choices = s.choices := by
  unfold State.request4; split <;> rfl
@[simp] theorem State.request4_pending (s : State) (q : AuditReq) : (s.request4 q).pending = s.pending := by
  unfold State.request4; split <;> rfl

/-- A view of the streams alone is left by an update that leaves the streams. -/
theorem State.stream_of_streams (s t : State) (h : t.streams = s.streams) (i : StreamId) :
    t.stream i = s.stream i := by
  unfold State.stream; rw [h]

end Sys2Proof.Machine
end

