-- ==== Sys2Proof/Laws/Ops.lean ====
section
/-! SUPPORT. What each shared operation leaves unchanged: one lemma per operation, its parts used by simp. -/

namespace Sys2Proof.Machine

/-- The bits of a field: none stands outside its width (R170). -/
theorem getLsbD_putField (v lo width k : Nat) :
    (putField v lo width).getLsbD k =
      (decide (k < 32) && decide (lo ≤ k) && decide (k - lo < width) && v.testBit (k - lo)) := by
  by_cases h32 : k < 32 <;> by_cases hl : lo ≤ k
  · simp [putField, h32, hl, BitVec.getLsbD_ofNat]
  all_goals simp [putField, h32, hl]

/-- The lanes of a write have a strobe at exactly the positions of its payload, whatever the free data. -/
theorem Payload.lanes_strobe (p : Payload) (free : Nat → Byte) :
    (p.lanes free).map Lane.strobe = (List.range 64).map (fun n => (p.at? n).isSome) := by
  simp only [Payload.lanes, List.map_map]
  refine List.map_congr_left (fun n _ => ?_)
  simp only [Function.comp]
  cases p.at? n <;> rfl

@[simp] theorem State.memError_frame (s : State) (i : StreamId) (l : LineIndex) :
    (s.memError i l).sp = s.sp ∧ (s.memError i l).windows = s.windows ∧ (s.memError i l).pool = s.pool ∧
    (s.memError i l).streams = s.streams ∧ (s.memError i l).link = s.link ∧ (s.memError i l).apply = s.apply ∧
    (s.memError i l).holds = s.holds ∧ (s.memError i l).engine = s.engine ∧ (s.memError i l).audit = s.audit ∧
    (s.memError i l).mp = s.mp ∧ (s.memError i l).mgmt = s.mgmt ∧ (s.memError i l).global = s.global ∧
    (s.memError i l).softReset = s.softReset ∧ (s.memError i l).resetAsserted = s.resetAsserted ∧
    (s.memError i l).out = s.out ∧ (s.memError i l).owed = s.owed ∧ (s.memError i l).choices = s.choices ∧
    (s.memError i l).pending = s.pending := by
  simp [State.memError]

@[simp] theorem State.poolFell_frame (s : State) :
    s.poolFell.sp = s.sp ∧ s.poolFell.windows = s.windows ∧ s.poolFell.streams = s.streams ∧
    s.poolFell.link = s.link ∧ s.poolFell.apply = s.apply ∧ s.poolFell.holds = s.holds ∧
    s.poolFell.engine = s.engine ∧ s.poolFell.audit = s.audit ∧ s.poolFell.mp = s.mp ∧
    s.poolFell.mgmt = s.mgmt ∧ s.poolFell.global = s.global ∧ s.poolFell.softReset = s.softReset ∧
    s.poolFell.resetAsserted = s.resetAsserted ∧ s.poolFell.out = s.out ∧ s.poolFell.owed = s.owed ∧
    s.poolFell.choices = s.choices ∧ s.poolFell.pending = s.pending := by
  unfold State.poolFell; dsimp only; split <;> simp

@[simp] theorem State.poolRearm_frame (s : State) :
    s.poolRearm.sp = s.sp ∧ s.poolRearm.windows = s.windows ∧ s.poolRearm.streams = s.streams ∧
    s.poolRearm.link = s.link ∧ s.poolRearm.apply = s.apply ∧ s.poolRearm.holds = s.holds ∧
    s.poolRearm.engine = s.engine ∧ s.poolRearm.audit = s.audit ∧ s.poolRearm.mp = s.mp ∧
    s.poolRearm.mgmt = s.mgmt ∧ s.poolRearm.events = s.events ∧ s.poolRearm.global = s.global ∧
    s.poolRearm.softReset = s.softReset ∧ s.poolRearm.resetAsserted = s.resetAsserted ∧
    s.poolRearm.out = s.out ∧ s.poolRearm.owed = s.owed ∧ s.poolRearm.choices = s.choices ∧
    s.poolRearm.pending = s.pending := by
  unfold State.poolRearm; split <;> simp

@[simp] theorem State.poolThresholdTest_frame (s : State) :
    s.poolThresholdTest.sp = s.sp ∧ s.poolThresholdTest.windows = s.windows ∧
    s.poolThresholdTest.streams = s.streams ∧ s.poolThresholdTest.link = s.link ∧
    s.poolThresholdTest.apply = s.apply ∧ s.poolThresholdTest.holds = s.holds ∧
    s.poolThresholdTest.engine = s.engine ∧ s.poolThresholdTest.audit = s.audit ∧
    s.poolThresholdTest.mp = s.mp ∧ s.poolThresholdTest.mgmt = s.mgmt ∧ s.poolThresholdTest.global = s.global ∧
    s.poolThresholdTest.softReset = s.softReset ∧ s.poolThresholdTest.resetAsserted = s.resetAsserted ∧
    s.poolThresholdTest.out = s.out ∧ s.poolThresholdTest.owed = s.owed ∧
    s.poolThresholdTest.choices = s.choices ∧ s.poolThresholdTest.pending = s.pending := by
  unfold State.poolThresholdTest; repeat' split
  all_goals simp

@[simp] theorem State.endJob_frame (s : State) (o : AuditOutcome) (r : Reason) (x y : Option Word32) :
    (s.endJob o r x y).sp = s.sp ∧ (s.endJob o r x y).windows = s.windows ∧ (s.endJob o r x y).pool = s.pool ∧
    (s.endJob o r x y).streams = s.streams ∧ (s.endJob o r x y).link = s.link ∧
    (s.endJob o r x y).apply = s.apply ∧ (s.endJob o r x y).holds = s.holds ∧
    (s.endJob o r x y).engine = s.engine ∧ (s.endJob o r x y).mp = s.mp ∧ (s.endJob o r x y).mgmt = s.mgmt ∧
    (s.endJob o r x y).global = s.global ∧ (s.endJob o r x y).softReset = s.softReset ∧
    (s.endJob o r x y).resetAsserted = s.resetAsserted ∧ (s.endJob o r x y).out = s.out ∧
    (s.endJob o r x y).owed = s.owed ∧ (s.endJob o r x y).choices = s.choices ∧
    (s.endJob o r x y).pending = s.pending := by
  simp [State.endJob]

@[simp] theorem State.abortAudit_frame (s : State) (i : StreamId) :
    (s.abortAudit i).sp = s.sp ∧ (s.abortAudit i).windows = s.windows ∧ (s.abortAudit i).pool = s.pool ∧
    (s.abortAudit i).streams = s.streams ∧ (s.abortAudit i).link = s.link ∧ (s.abortAudit i).apply = s.apply ∧
    (s.abortAudit i).holds = s.holds ∧ (s.abortAudit i).engine = s.engine ∧ (s.abortAudit i).mp = s.mp ∧
    (s.abortAudit i).mgmt = s.mgmt ∧ (s.abortAudit i).global = s.global ∧
    (s.abortAudit i).softReset = s.softReset ∧ (s.abortAudit i).resetAsserted = s.resetAsserted ∧
    (s.abortAudit i).out = s.out ∧ (s.abortAudit i).owed = s.owed ∧ (s.abortAudit i).choices = s.choices ∧
    (s.abortAudit i).pending = s.pending := by
  unfold State.abortAudit; repeat' split
  all_goals simp

@[simp] theorem State.endResponder_frame (s : State) (x : DgrStatus) (r : Reason) (d : Word32) :
    (s.endResponder x r d).sp = s.sp ∧ (s.endResponder x r d).windows = s.windows ∧
    (s.endResponder x r d).pool = s.pool ∧ (s.endResponder x r d).streams = s.streams ∧
    (s.endResponder x r d).apply = s.apply ∧ (s.endResponder x r d).holds = s.holds ∧
    (s.endResponder x r d).engine = s.engine ∧ (s.endResponder x r d).mp = s.mp ∧
    (s.endResponder x r d).mgmt = s.mgmt ∧ (s.endResponder x r d).events = s.events ∧
    (s.endResponder x r d).global = s.global ∧ (s.endResponder x r d).softReset = s.softReset ∧
    (s.endResponder x r d).resetAsserted = s.resetAsserted ∧ (s.endResponder x r d).out = s.out ∧
    (s.endResponder x r d).owed = s.owed ∧ (s.endResponder x r d).choices = s.choices ∧
    (s.endResponder x r d).pending = s.pending := by
  simp [State.endResponder]

@[simp] theorem State.refuseResponder_frame (s : State) (i : StreamId) :
    (s.refuseResponder i).sp = s.sp ∧ (s.refuseResponder i).windows = s.windows ∧
    (s.refuseResponder i).pool = s.pool ∧ (s.refuseResponder i).streams = s.streams ∧
    (s.refuseResponder i).apply = s.apply ∧ (s.refuseResponder i).holds = s.holds ∧
    (s.refuseResponder i).engine = s.engine ∧ (s.refuseResponder i).mp = s.mp ∧
    (s.refuseResponder i).mgmt = s.mgmt ∧ (s.refuseResponder i).events = s.events ∧
    (s.refuseResponder i).global = s.global ∧ (s.refuseResponder i).softReset = s.softReset ∧
    (s.refuseResponder i).resetAsserted = s.resetAsserted ∧ (s.refuseResponder i).out = s.out ∧
    (s.refuseResponder i).owed = s.owed ∧ (s.refuseResponder i).choices = s.choices ∧
    (s.refuseResponder i).pending = s.pending := by
  unfold State.refuseResponder; repeat' split
  all_goals simp

@[simp] theorem State.mark_frame (s : State) (i : StreamId) (g : Nat) :
    (s.mark i g).sp = s.sp ∧ (s.mark i g).windows = s.windows ∧ (s.mark i g).pool = s.pool ∧
    (s.mark i g).link = s.link ∧ (s.mark i g).apply = s.apply ∧ (s.mark i g).holds = s.holds ∧
    (s.mark i g).engine = s.engine ∧ (s.mark i g).mp = s.mp ∧ (s.mark i g).mgmt = s.mgmt ∧
    (s.mark i g).global = s.global ∧ (s.mark i g).softReset = s.softReset ∧
    (s.mark i g).resetAsserted = s.resetAsserted ∧ (s.mark i g).out = s.out ∧
    (s.mark i g).choices = s.choices ∧ (s.mark i g).pending = s.pending := by
  unfold State.mark; repeat' split
  all_goals simp

@[simp] theorem State.markLine_frame (s : State) (i : StreamId) (l : LineIndex) :
    (s.markLine i l).sp = s.sp ∧ (s.markLine i l).windows = s.windows ∧ (s.markLine i l).pool = s.pool ∧
    (s.markLine i l).link = s.link ∧ (s.markLine i l).apply = s.apply ∧ (s.markLine i l).holds = s.holds ∧
    (s.markLine i l).engine = s.engine ∧ (s.markLine i l).mp = s.mp ∧ (s.markLine i l).mgmt = s.mgmt ∧
    (s.markLine i l).global = s.global ∧ (s.markLine i l).softReset = s.softReset ∧
    (s.markLine i l).resetAsserted = s.resetAsserted ∧ (s.markLine i l).out = s.out ∧
    (s.markLine i l).choices = s.choices ∧ (s.markLine i l).pending = s.pending := by
  simp [State.markLine]

@[simp] theorem State.create_frame (s : State) (i : StreamId) (n : Nat) (l : List Nat) (r : Record) :
    (s.create i n l r).sp = s.sp ∧ (s.create i n l r).windows = s.windows ∧ (s.create i n l r).link = s.link ∧
    (s.create i n l r).apply = s.apply ∧ (s.create i n l r).holds = s.holds ∧
    (s.create i n l r).engine = s.engine ∧ (s.create i n l r).audit = s.audit ∧ (s.create i n l r).mp = s.mp ∧
    (s.create i n l r).mgmt = s.mgmt ∧ (s.create i n l r).global = s.global ∧
    (s.create i n l r).softReset = s.softReset ∧ (s.create i n l r).resetAsserted = s.resetAsserted ∧
    (s.create i n l r).out = s.out ∧ (s.create i n l r).owed = s.owed ∧
    (s.create i n l r).choices = s.choices ∧ (s.create i n l r).pending = s.pending := by
  simp [State.create]

@[simp] theorem State.freeSlots_frame (s : State) (l : List Nat) :
    (s.freeSlots l).sp = s.sp ∧ (s.freeSlots l).windows = s.windows ∧ (s.freeSlots l).streams = s.streams ∧
    (s.freeSlots l).link = s.link ∧ (s.freeSlots l).apply = s.apply ∧ (s.freeSlots l).holds = s.holds ∧
    (s.freeSlots l).engine = s.engine ∧ (s.freeSlots l).audit = s.audit ∧ (s.freeSlots l).mp = s.mp ∧
    (s.freeSlots l).mgmt = s.mgmt ∧ (s.freeSlots l).events = s.events ∧ (s.freeSlots l).global = s.global ∧
    (s.freeSlots l).softReset = s.softReset ∧ (s.freeSlots l).resetAsserted = s.resetAsserted ∧
    (s.freeSlots l).out = s.out ∧ (s.freeSlots l).owed = s.owed ∧ (s.freeSlots l).choices = s.choices ∧
    (s.freeSlots l).pending = s.pending := by
  unfold State.freeSlots; repeat' split
  all_goals simp

@[simp] theorem State.drained_frame (s : State) (i : StreamId) :
    (s.drained i).sp = s.sp ∧ (s.drained i).windows = s.windows ∧ (s.drained i).pool = s.pool ∧
    (s.drained i).link = s.link ∧ (s.drained i).apply = s.apply ∧ (s.drained i).holds = s.holds ∧
    (s.drained i).engine = s.engine ∧ (s.drained i).audit = s.audit ∧ (s.drained i).mp = s.mp ∧
    (s.drained i).mgmt = s.mgmt ∧ (s.drained i).events = s.events ∧ (s.drained i).global = s.global ∧
    (s.drained i).softReset = s.softReset ∧ (s.drained i).resetAsserted = s.resetAsserted ∧
    (s.drained i).out = s.out ∧ (s.drained i).owed = s.owed ∧ (s.drained i).choices = s.choices ∧
    (s.drained i).pending = s.pending := by
  unfold State.drained; repeat' split
  all_goals simp

@[simp] theorem State.freeFlagged_frame (s : State) (i : StreamId) (n : Nat) :
    (s.freeFlagged i n).sp = s.sp ∧ (s.freeFlagged i n).windows = s.windows ∧
    (s.freeFlagged i n).link = s.link ∧ (s.freeFlagged i n).apply = s.apply ∧
    (s.freeFlagged i n).holds = s.holds ∧ (s.freeFlagged i n).engine = s.engine ∧
    (s.freeFlagged i n).audit = s.audit ∧ (s.freeFlagged i n).mp = s.mp ∧ (s.freeFlagged i n).mgmt = s.mgmt ∧
    (s.freeFlagged i n).events = s.events ∧ (s.freeFlagged i n).global = s.global ∧
    (s.freeFlagged i n).softReset = s.softReset ∧ (s.freeFlagged i n).resetAsserted = s.resetAsserted ∧
    (s.freeFlagged i n).out = s.out ∧ (s.freeFlagged i n).owed = s.owed ∧
    (s.freeFlagged i n).choices = s.choices ∧ (s.freeFlagged i n).pending = s.pending := by
  unfold State.freeFlagged; repeat' split
  all_goals simp

@[simp] theorem State.localComplete_frame (s : State) (i : StreamId) (n : Nat) (x : Status) :
    (s.localComplete i n x).sp = s.sp ∧ (s.localComplete i n x).windows = s.windows ∧
    (s.localComplete i n x).link = s.link ∧ (s.localComplete i n x).apply = s.apply ∧
    (s.localComplete i n x).holds = s.holds ∧ (s.localComplete i n x).engine = s.engine ∧
    (s.localComplete i n x).mp = s.mp ∧ (s.localComplete i n x).mgmt = s.mgmt ∧
    (s.localComplete i n x).global = s.global ∧ (s.localComplete i n x).softReset = s.softReset ∧
    (s.localComplete i n x).resetAsserted = s.resetAsserted ∧ (s.localComplete i n x).out = s.out ∧
    (s.localComplete i n x).choices = s.choices ∧ (s.localComplete i n x).pending = s.pending := by
  unfold State.localComplete; dsimp only; repeat' split
  all_goals simp

@[simp] theorem State.flush_frame (s : State) (i : StreamId) :
    (s.flush i).sp = s.sp ∧ (s.flush i).windows = s.windows ∧ (s.flush i).link = s.link ∧
    (s.flush i).apply = s.apply ∧ (s.flush i).holds = s.holds ∧ (s.flush i).engine = s.engine ∧
    (s.flush i).audit = s.audit ∧ (s.flush i).mp = s.mp ∧ (s.flush i).mgmt = s.mgmt ∧
    (s.flush i).events = s.events ∧ (s.flush i).global = s.global ∧ (s.flush i).softReset = s.softReset ∧
    (s.flush i).resetAsserted = s.resetAsserted ∧ (s.flush i).out = s.out ∧ (s.flush i).owed = s.owed ∧
    (s.flush i).choices = s.choices ∧ (s.flush i).pending = s.pending := by
  simp [State.flush]

@[simp] theorem State.emptyHold_frame (s : State) (k : Fin 4) :
    (s.emptyHold k).sp = s.sp ∧ (s.emptyHold k).windows = s.windows ∧ (s.emptyHold k).pool = s.pool ∧
    (s.emptyHold k).streams = s.streams ∧ (s.emptyHold k).link = s.link ∧ (s.emptyHold k).apply = s.apply ∧
    (s.emptyHold k).engine = s.engine ∧ (s.emptyHold k).audit = s.audit ∧ (s.emptyHold k).mp = s.mp ∧
    (s.emptyHold k).mgmt = s.mgmt ∧ (s.emptyHold k).events = s.events ∧ (s.emptyHold k).global = s.global ∧
    (s.emptyHold k).softReset = s.softReset ∧ (s.emptyHold k).resetAsserted = s.resetAsserted ∧
    (s.emptyHold k).out = s.out ∧ (s.emptyHold k).owed = s.owed ∧ (s.emptyHold k).choices = s.choices ∧
    (s.emptyHold k).pending = s.pending := by
  unfold State.emptyHold; repeat' split
  all_goals simp

@[simp] theorem State.answerHold_frame (s : State) (k : Fin 4) :
    (s.answerHold k).windows = s.windows ∧ (s.answerHold k).pool = s.pool ∧
    (s.answerHold k).streams = s.streams ∧ (s.answerHold k).link = s.link ∧ (s.answerHold k).apply = s.apply ∧
    (s.answerHold k).engine = s.engine ∧ (s.answerHold k).audit = s.audit ∧ (s.answerHold k).mp = s.mp ∧
    (s.answerHold k).mgmt = s.mgmt ∧ (s.answerHold k).events = s.events ∧ (s.answerHold k).global = s.global ∧
    (s.answerHold k).softReset = s.softReset ∧ (s.answerHold k).resetAsserted = s.resetAsserted ∧
    (s.answerHold k).out = s.out ∧ (s.answerHold k).owed = s.owed ∧ (s.answerHold k).choices = s.choices ∧
    (s.answerHold k).pending = s.pending := by
  unfold State.answerHold; repeat' split
  all_goals simp

@[simp] theorem State.takeHold_frame (s : State) (k : Fin 4) (i : StreamId) (t : SpTag) (a : Addr) (l : List Lane) :
    (s.takeHold k i t a l).sp = s.sp ∧ (s.takeHold k i t a l).windows = s.windows ∧
    (s.takeHold k i t a l).pool = s.pool ∧ (s.takeHold k i t a l).link = s.link ∧
    (s.takeHold k i t a l).apply = s.apply ∧ (s.takeHold k i t a l).engine = s.engine ∧
    (s.takeHold k i t a l).audit = s.audit ∧ (s.takeHold k i t a l).mp = s.mp ∧
    (s.takeHold k i t a l).mgmt = s.mgmt ∧ (s.takeHold k i t a l).events = s.events ∧
    (s.takeHold k i t a l).global = s.global ∧ (s.takeHold k i t a l).softReset = s.softReset ∧
    (s.takeHold k i t a l).resetAsserted = s.resetAsserted ∧ (s.takeHold k i t a l).out = s.out ∧
    (s.takeHold k i t a l).owed = s.owed ∧ (s.takeHold k i t a l).choices = s.choices ∧
    (s.takeHold k i t a l).pending = s.pending := by
  simp [State.takeHold]

@[simp] theorem State.forward_frame (s : State) (r : SpRequest) (u : WriteUse) :
    (s.forward r u).sp = s.sp ∧ (s.forward r u).windows = s.windows ∧ (s.forward r u).pool = s.pool ∧
    (s.forward r u).streams = s.streams ∧ (s.forward r u).link = s.link ∧ (s.forward r u).apply = s.apply ∧
    (s.forward r u).holds = s.holds ∧ (s.forward r u).mgmt = s.mgmt ∧ (s.forward r u).events = s.events ∧
    (s.forward r u).global = s.global ∧ (s.forward r u).softReset = s.softReset ∧
    (s.forward r u).resetAsserted = s.resetAsserted ∧ (s.forward r u).out = s.out ∧
    (s.forward r u).owed = s.owed ∧ (s.forward r u).choices = s.choices ∧ (s.forward r u).pending = s.pending := by
  unfold State.forward; repeat' split
  all_goals simp

@[simp] theorem State.raiseMarks_frame (s : State) (i : StreamId) :
    (s.raiseMarks i).sp = s.sp ∧ (s.raiseMarks i).windows = s.windows ∧ (s.raiseMarks i).pool = s.pool ∧
    (s.raiseMarks i).streams = s.streams ∧ (s.raiseMarks i).link = s.link ∧ (s.raiseMarks i).apply = s.apply ∧
    (s.raiseMarks i).engine = s.engine ∧ (s.raiseMarks i).audit = s.audit ∧ (s.raiseMarks i).mp = s.mp ∧
    (s.raiseMarks i).mgmt = s.mgmt ∧ (s.raiseMarks i).events = s.events ∧ (s.raiseMarks i).global = s.global ∧
    (s.raiseMarks i).softReset = s.softReset ∧ (s.raiseMarks i).resetAsserted = s.resetAsserted ∧
    (s.raiseMarks i).out = s.out ∧ (s.raiseMarks i).owed = s.owed ∧ (s.raiseMarks i).choices = s.choices ∧
    (s.raiseMarks i).pending = s.pending := by
  unfold State.raiseMarks; repeat' split
  all_goals simp

@[simp] theorem State.dropCopyMarked_frame (s : State) (i : StreamId) :
    (s.dropCopyMarked i).sp = s.sp ∧ (s.dropCopyMarked i).windows = s.windows ∧
    (s.dropCopyMarked i).pool = s.pool ∧ (s.dropCopyMarked i).link = s.link ∧
    (s.dropCopyMarked i).apply = s.apply ∧ (s.dropCopyMarked i).holds = s.holds ∧
    (s.dropCopyMarked i).engine = s.engine ∧ (s.dropCopyMarked i).mp = s.mp ∧
    (s.dropCopyMarked i).mgmt = s.mgmt ∧ (s.dropCopyMarked i).global = s.global ∧
    (s.dropCopyMarked i).softReset = s.softReset ∧ (s.dropCopyMarked i).resetAsserted = s.resetAsserted ∧
    (s.dropCopyMarked i).out = s.out ∧ (s.dropCopyMarked i).choices = s.choices ∧
    (s.dropCopyMarked i).pending = s.pending := by
  unfold State.dropCopyMarked; repeat' split
  all_goals simp

@[simp] theorem State.engineLeave_frame (s : State) (i : StreamId) :
    (s.engineLeave i).sp = s.sp ∧ (s.engineLeave i).windows = s.windows ∧ (s.engineLeave i).pool = s.pool ∧
    (s.engineLeave i).streams = s.streams ∧ (s.engineLeave i).link = s.link ∧
    (s.engineLeave i).apply = s.apply ∧ (s.engineLeave i).holds = s.holds ∧ (s.engineLeave i).audit = s.audit ∧
    (s.engineLeave i).mp = s.mp ∧ (s.engineLeave i).mgmt = s.mgmt ∧ (s.engineLeave i).events = s.events ∧
    (s.engineLeave i).global = s.global ∧ (s.engineLeave i).softReset = s.softReset ∧
    (s.engineLeave i).resetAsserted = s.resetAsserted ∧ (s.engineLeave i).out = s.out ∧
    (s.engineLeave i).owed = s.owed ∧ (s.engineLeave i).choices = s.choices ∧
    (s.engineLeave i).pending = s.pending := by
  unfold State.engineLeave; repeat' split
  all_goals simp

@[simp] theorem State.markRecords_frame (s : State) (i : StreamId) (l : List Record) :
    (s.markRecords i l).sp = s.sp ∧ (s.markRecords i l).windows = s.windows ∧
    (s.markRecords i l).pool = s.pool ∧ (s.markRecords i l).link = s.link ∧
    (s.markRecords i l).apply = s.apply ∧ (s.markRecords i l).holds = s.holds ∧
    (s.markRecords i l).engine = s.engine ∧ (s.markRecords i l).mp = s.mp ∧ (s.markRecords i l).mgmt = s.mgmt ∧
    (s.markRecords i l).global = s.global ∧ (s.markRecords i l).softReset = s.softReset ∧
    (s.markRecords i l).resetAsserted = s.resetAsserted ∧ (s.markRecords i l).out = s.out ∧
    (s.markRecords i l).choices = s.choices ∧ (s.markRecords i l).pending = s.pending := by
  induction l generalizing s with
  | nil => simp [State.markRecords]
  | cons r rest ih => simp [State.markRecords, ih]

@[simp] theorem State.flushMarking_frame (s : State) (i : StreamId) :
    (s.flushMarking i).sp = s.sp ∧ (s.flushMarking i).windows = s.windows ∧ (s.flushMarking i).link = s.link ∧
    (s.flushMarking i).apply = s.apply ∧ (s.flushMarking i).holds = s.holds ∧
    (s.flushMarking i).engine = s.engine ∧ (s.flushMarking i).mp = s.mp ∧ (s.flushMarking i).mgmt = s.mgmt ∧
    (s.flushMarking i).global = s.global ∧ (s.flushMarking i).softReset = s.softReset ∧
    (s.flushMarking i).resetAsserted = s.resetAsserted ∧ (s.flushMarking i).out = s.out ∧
    (s.flushMarking i).choices = s.choices ∧ (s.flushMarking i).pending = s.pending := by
  simp [State.flushMarking]

@[simp] theorem State.answerHolds_frame (s : State) (l : List (Fin 4)) :
    (s.answerHolds l).windows = s.windows ∧ (s.answerHolds l).pool = s.pool ∧
    (s.answerHolds l).streams = s.streams ∧ (s.answerHolds l).link = s.link ∧
    (s.answerHolds l).apply = s.apply ∧ (s.answerHolds l).engine = s.engine ∧
    (s.answerHolds l).audit = s.audit ∧ (s.answerHolds l).mp = s.mp ∧ (s.answerHolds l).mgmt = s.mgmt ∧
    (s.answerHolds l).events = s.events ∧ (s.answerHolds l).global = s.global ∧
    (s.answerHolds l).softReset = s.softReset ∧ (s.answerHolds l).resetAsserted = s.resetAsserted ∧
    (s.answerHolds l).out = s.out ∧ (s.answerHolds l).owed = s.owed ∧ (s.answerHolds l).choices = s.choices ∧
    (s.answerHolds l).pending = s.pending := by
  induction l generalizing s with
  | nil => simp [State.answerHolds]
  | cons k rest ih => simp [State.answerHolds, ih]

@[simp] theorem State.answerStream_frame (s : State) (i : StreamId) :
    (s.answerStream i).windows = s.windows ∧ (s.answerStream i).pool = s.pool ∧
    (s.answerStream i).streams = s.streams ∧ (s.answerStream i).link = s.link ∧
    (s.answerStream i).apply = s.apply ∧ (s.answerStream i).engine = s.engine ∧
    (s.answerStream i).audit = s.audit ∧ (s.answerStream i).mp = s.mp ∧ (s.answerStream i).mgmt = s.mgmt ∧
    (s.answerStream i).events = s.events ∧ (s.answerStream i).global = s.global ∧
    (s.answerStream i).softReset = s.softReset ∧ (s.answerStream i).resetAsserted = s.resetAsserted ∧
    (s.answerStream i).out = s.out ∧ (s.answerStream i).owed = s.owed ∧
    (s.answerStream i).choices = s.choices ∧ (s.answerStream i).pending = s.pending := by
  simp [State.answerStream]

/-- An offer leaves all but the pool, the streams and the Event Queue (R25). -/
@[simp] theorem State.offer_frame (s : State) (i : StreamId) (l : LineIndex) (p : Payload) :
    (s.offer i l p).2.sp = s.sp ∧ (s.offer i l p).2.windows = s.windows ∧ (s.offer i l p).2.link = s.link ∧
    (s.offer i l p).2.apply = s.apply ∧ (s.offer i l p).2.holds = s.holds ∧ (s.offer i l p).2.engine = s.engine ∧
    (s.offer i l p).2.audit = s.audit ∧ (s.offer i l p).2.mp = s.mp ∧ (s.offer i l p).2.mgmt = s.mgmt ∧
    (s.offer i l p).2.global = s.global ∧ (s.offer i l p).2.softReset = s.softReset ∧
    (s.offer i l p).2.resetAsserted = s.resetAsserted ∧ (s.offer i l p).2.out = s.out ∧
    (s.offer i l p).2.owed = s.owed ∧ (s.offer i l p).2.choices = s.choices ∧
    (s.offer i l p).2.pending = s.pending := by
  unfold State.offer; repeat' split
  all_goals simp

@[simp] theorem State.release_frame (s : State) (k : Fin 4) :
    (s.release k).sp = s.sp ∧ (s.release k).windows = s.windows ∧ (s.release k).link = s.link ∧
    (s.release k).apply = s.apply ∧ (s.release k).mgmt = s.mgmt ∧ (s.release k).global = s.global ∧
    (s.release k).softReset = s.softReset ∧ (s.release k).resetAsserted = s.resetAsserted ∧
    (s.release k).out = s.out ∧ (s.release k).choices = s.choices ∧ (s.release k).pending = s.pending := by
  unfold State.release
  split
  · simp
  · rename_i h _
    have e := State.offer_frame (s.emptyHold k) h.stream ((s.stream h.stream).cfg.lineIndex h.addr)
      (lanesPayload (bytePos h.addr) h.lanes)
    dsimp only
    split
    all_goals
      rename_i heq
      rw [heq] at e
      simp at e
      simp [e]

@[simp] theorem State.testHolds_frame (s : State) (l : List (Fin 4)) :
    (s.testHolds l).sp = s.sp ∧ (s.testHolds l).windows = s.windows ∧ (s.testHolds l).link = s.link ∧
    (s.testHolds l).apply = s.apply ∧ (s.testHolds l).mgmt = s.mgmt ∧ (s.testHolds l).global = s.global ∧
    (s.testHolds l).softReset = s.softReset ∧ (s.testHolds l).resetAsserted = s.resetAsserted ∧
    (s.testHolds l).out = s.out ∧ (s.testHolds l).choices = s.choices ∧ (s.testHolds l).pending = s.pending := by
  induction l generalizing s with
  | nil => simp [State.testHolds]
  | cons k rest ih =>
    unfold State.testHolds
    repeat' split
    all_goals simp [ih]

@[simp] theorem State.testReleases_frame (s : State) (i : StreamId) :
    (s.testReleases i).sp = s.sp ∧ (s.testReleases i).windows = s.windows ∧ (s.testReleases i).link = s.link ∧
    (s.testReleases i).apply = s.apply ∧ (s.testReleases i).mgmt = s.mgmt ∧
    (s.testReleases i).global = s.global ∧ (s.testReleases i).softReset = s.softReset ∧
    (s.testReleases i).resetAsserted = s.resetAsserted ∧ (s.testReleases i).out = s.out ∧
    (s.testReleases i).choices = s.choices ∧ (s.testReleases i).pending = s.pending := by
  simp [State.testReleases]

@[simp] theorem State.toDegraded_frame (s : State) (i : StreamId) (c : Cause) (r : Reason) :
    (s.toDegraded i c r).windows = s.windows ∧ (s.toDegraded i c r).link = s.link ∧
    (s.toDegraded i c r).apply = s.apply ∧ (s.toDegraded i c r).mp = s.mp ∧
    (s.toDegraded i c r).mgmt = s.mgmt ∧ (s.toDegraded i c r).global = s.global ∧
    (s.toDegraded i c r).softReset = s.softReset ∧ (s.toDegraded i c r).resetAsserted = s.resetAsserted ∧
    (s.toDegraded i c r).out = s.out ∧ (s.toDegraded i c r).choices = s.choices ∧
    (s.toDegraded i c r).pending = s.pending := by
  simp [State.toDegraded]

@[simp] theorem State.toOpening_frame (s : State) (i : StreamId) (c : Cause) :
    (s.toOpening i c).sp = s.sp ∧ (s.toOpening i c).windows = s.windows ∧ (s.toOpening i c).pool = s.pool ∧
    (s.toOpening i c).link = s.link ∧ (s.toOpening i c).apply = s.apply ∧ (s.toOpening i c).holds = s.holds ∧
    (s.toOpening i c).engine = s.engine ∧ (s.toOpening i c).audit = s.audit ∧ (s.toOpening i c).mp = s.mp ∧
    (s.toOpening i c).mgmt = s.mgmt ∧ (s.toOpening i c).events = s.events ∧
    (s.toOpening i c).global = s.global ∧ (s.toOpening i c).softReset = s.softReset ∧
    (s.toOpening i c).resetAsserted = s.resetAsserted ∧ (s.toOpening i c).out = s.out ∧
    (s.toOpening i c).choices = s.choices ∧ (s.toOpening i c).pending = s.pending := by
  simp [State.toOpening]

@[simp] theorem State.closingToOff_frame (s : State) (i : StreamId) (c : Cause) (r : Reason) :
    (s.closingToOff i c r).sp = s.sp ∧ (s.closingToOff i c r).windows = s.windows ∧
    (s.closingToOff i c r).link = s.link ∧ (s.closingToOff i c r).apply = s.apply ∧
    (s.closingToOff i c r).holds = s.holds ∧ (s.closingToOff i c r).engine = s.engine ∧
    (s.closingToOff i c r).audit = s.audit ∧ (s.closingToOff i c r).mp = s.mp ∧
    (s.closingToOff i c r).mgmt = s.mgmt ∧ (s.closingToOff i c r).events = s.events ∧
    (s.closingToOff i c r).global = s.global ∧ (s.closingToOff i c r).softReset = s.softReset ∧
    (s.closingToOff i c r).resetAsserted = s.resetAsserted ∧ (s.closingToOff i c r).out = s.out ∧
    (s.closingToOff i c r).choices = s.choices ∧ (s.closingToOff i c r).pending = s.pending := by
  simp [State.closingToOff]

@[simp] theorem State.toClosing_frame (s : State) (i : StreamId) :
    (s.toClosing i).windows = s.windows ∧ (s.toClosing i).pool = s.pool ∧ (s.toClosing i).link = s.link ∧
    (s.toClosing i).apply = s.apply ∧ (s.toClosing i).mp = s.mp ∧ (s.toClosing i).mgmt = s.mgmt ∧
    (s.toClosing i).global = s.global ∧ (s.toClosing i).softReset = s.softReset ∧
    (s.toClosing i).resetAsserted = s.resetAsserted ∧ (s.toClosing i).out = s.out ∧
    (s.toClosing i).choices = s.choices ∧ (s.toClosing i).pending = s.pending := by
  simp [State.toClosing]

@[simp] theorem State.toActive_frame (s : State) (i : StreamId) :
    (s.toActive i).sp = s.sp ∧ (s.toActive i).windows = s.windows ∧ (s.toActive i).link = s.link ∧
    (s.toActive i).apply = s.apply ∧ (s.toActive i).mgmt = s.mgmt ∧ (s.toActive i).global = s.global ∧
    (s.toActive i).softReset = s.softReset ∧ (s.toActive i).resetAsserted = s.resetAsserted ∧
    (s.toActive i).out = s.out ∧ (s.toActive i).choices = s.choices ∧ (s.toActive i).pending = s.pending := by
  simp [State.toActive]

@[simp] theorem State.staleEntries_frame (s : State) (i : StreamId) :
    (s.staleEntries i).sp = s.sp ∧ (s.staleEntries i).windows = s.windows ∧ (s.staleEntries i).pool = s.pool ∧
    (s.staleEntries i).streams = s.streams ∧ (s.staleEntries i).link = s.link ∧
    (s.staleEntries i).holds = s.holds ∧ (s.staleEntries i).engine = s.engine ∧
    (s.staleEntries i).audit = s.audit ∧ (s.staleEntries i).mp = s.mp ∧ (s.staleEntries i).mgmt = s.mgmt ∧
    (s.staleEntries i).events = s.events ∧ (s.staleEntries i).global = s.global ∧
    (s.staleEntries i).softReset = s.softReset ∧ (s.staleEntries i).resetAsserted = s.resetAsserted ∧
    (s.staleEntries i).out = s.out ∧ (s.staleEntries i).owed = s.owed ∧
    (s.staleEntries i).choices = s.choices ∧ (s.staleEntries i).pending = s.pending := by
  simp [State.staleEntries]

@[simp] theorem State.leaveBound_frame (s : State) (i : StreamId) (x : StreamState) (c : Cause) (r : Reason) :
    (s.leaveBound i x c r).sp = s.sp ∧ (s.leaveBound i x c r).windows = s.windows ∧
    (s.leaveBound i x c r).pool = s.pool ∧ (s.leaveBound i x c r).holds = s.holds ∧
    (s.leaveBound i x c r).engine = s.engine ∧ (s.leaveBound i x c r).mp = s.mp ∧
    (s.leaveBound i x c r).mgmt = s.mgmt ∧ (s.leaveBound i x c r).events = s.events ∧
    (s.leaveBound i x c r).global = s.global ∧ (s.leaveBound i x c r).softReset = s.softReset ∧
    (s.leaveBound i x c r).resetAsserted = s.resetAsserted ∧ (s.leaveBound i x c r).out = s.out ∧
    (s.leaveBound i x c r).choices = s.choices ∧ (s.leaveBound i x c r).pending = s.pending := by
  simp [State.leaveBound]

@[simp] theorem State.bind_frame (s : State) (i : StreamId) (x : Session) :
    (s.bind i x).sp = s.sp ∧ (s.bind i x).windows = s.windows ∧ (s.bind i x).pool = s.pool ∧
    (s.bind i x).holds = s.holds ∧ (s.bind i x).engine = s.engine ∧ (s.bind i x).mp = s.mp ∧
    (s.bind i x).mgmt = s.mgmt ∧ (s.bind i x).events = s.events ∧ (s.bind i x).global = s.global ∧
    (s.bind i x).softReset = s.softReset ∧ (s.bind i x).resetAsserted = s.resetAsserted ∧
    (s.bind i x).out = s.out ∧ (s.bind i x).choices = s.choices ∧ (s.bind i x).pending = s.pending := by
  simp [State.bind]

@[simp] theorem State.resetSend_frame (s : State) (i : StreamId) :
    (s.resetSend i).windows = s.windows ∧ (s.resetSend i).apply = s.apply ∧ (s.resetSend i).mp = s.mp ∧
    (s.resetSend i).mgmt = s.mgmt ∧ (s.resetSend i).global = s.global ∧
    (s.resetSend i).softReset = s.softReset ∧ (s.resetSend i).resetAsserted = s.resetAsserted ∧
    (s.resetSend i).out = s.out ∧ (s.resetSend i).choices = s.choices ∧ (s.resetSend i).pending = s.pending := by
  unfold State.resetSend; dsimp only; split <;> simp

@[simp] theorem State.streamDown_frame (s : State) (i : StreamId) :
    (s.streamDown i).windows = s.windows ∧ (s.streamDown i).mp = s.mp ∧ (s.streamDown i).mgmt = s.mgmt ∧
    (s.streamDown i).global = s.global ∧ (s.streamDown i).softReset = s.softReset ∧
    (s.streamDown i).resetAsserted = s.resetAsserted ∧ (s.streamDown i).out = s.out ∧
    (s.streamDown i).choices = s.choices ∧ (s.streamDown i).pending = s.pending := by
  unfold State.streamDown; repeat' split
  all_goals simp

@[simp] theorem State.streamsDown_frame (s : State) :
    s.streamsDown.windows = s.windows ∧ s.streamsDown.mp = s.mp ∧ s.streamsDown.mgmt = s.mgmt ∧
    s.streamsDown.global = s.global ∧ s.streamsDown.softReset = s.softReset ∧
    s.streamsDown.resetAsserted = s.resetAsserted ∧ s.streamsDown.out = s.out ∧
    s.streamsDown.choices = s.choices ∧ s.streamsDown.pending = s.pending := by
  simp [State.streamsDown, State.eachStream, allStreams]

@[simp] theorem State.autoReopen_frame (s : State) (i : StreamId) :
    (s.autoReopen i).sp = s.sp ∧ (s.autoReopen i).windows = s.windows ∧ (s.autoReopen i).pool = s.pool ∧
    (s.autoReopen i).link = s.link ∧ (s.autoReopen i).apply = s.apply ∧ (s.autoReopen i).holds = s.holds ∧
    (s.autoReopen i).engine = s.engine ∧ (s.autoReopen i).audit = s.audit ∧ (s.autoReopen i).mp = s.mp ∧
    (s.autoReopen i).mgmt = s.mgmt ∧ (s.autoReopen i).events = s.events ∧ (s.autoReopen i).global = s.global ∧
    (s.autoReopen i).softReset = s.softReset ∧ (s.autoReopen i).resetAsserted = s.resetAsserted ∧
    (s.autoReopen i).out = s.out ∧ (s.autoReopen i).choices = s.choices ∧ (s.autoReopen i).pending = s.pending := by
  unfold State.autoReopen; dsimp only; split <;> simp

@[simp] theorem State.streamsUp_frame (s : State) :
    s.streamsUp.sp = s.sp ∧ s.streamsUp.windows = s.windows ∧ s.streamsUp.pool = s.pool ∧
    s.streamsUp.link = s.link ∧ s.streamsUp.apply = s.apply ∧ s.streamsUp.holds = s.holds ∧
    s.streamsUp.engine = s.engine ∧ s.streamsUp.audit = s.audit ∧ s.streamsUp.mp = s.mp ∧
    s.streamsUp.mgmt = s.mgmt ∧ s.streamsUp.events = s.events ∧ s.streamsUp.global = s.global ∧
    s.streamsUp.softReset = s.softReset ∧ s.streamsUp.resetAsserted = s.resetAsserted ∧
    s.streamsUp.out = s.out ∧ s.streamsUp.choices = s.choices ∧ s.streamsUp.pending = s.pending := by
  simp [State.streamsUp, State.eachStream, allStreams]

@[simp] theorem State.retryExhausted_frame (s : State) (i : StreamId) :
    (s.retryExhausted i).windows = s.windows ∧ (s.retryExhausted i).link = s.link ∧
    (s.retryExhausted i).apply = s.apply ∧ (s.retryExhausted i).mp = s.mp ∧
    (s.retryExhausted i).mgmt = s.mgmt ∧ (s.retryExhausted i).global = s.global ∧
    (s.retryExhausted i).softReset = s.softReset ∧ (s.retryExhausted i).resetAsserted = s.resetAsserted ∧
    (s.retryExhausted i).out = s.out ∧ (s.retryExhausted i).choices = s.choices ∧
    (s.retryExhausted i).pending = s.pending := by
  unfold State.retryExhausted; repeat' split
  all_goals simp

@[simp] theorem State.startSilence_frame (s : State) :
    s.startSilence.sp = s.sp ∧ s.startSilence.windows = s.windows ∧ s.startSilence.pool = s.pool ∧
    s.startSilence.streams = s.streams ∧ s.startSilence.apply = s.apply ∧ s.startSilence.holds = s.holds ∧
    s.startSilence.engine = s.engine ∧ s.startSilence.audit = s.audit ∧ s.startSilence.mp = s.mp ∧
    s.startSilence.mgmt = s.mgmt ∧ s.startSilence.events = s.events ∧ s.startSilence.global = s.global ∧
    s.startSilence.softReset = s.softReset ∧ s.startSilence.resetAsserted = s.resetAsserted ∧
    s.startSilence.out = s.out ∧ s.startSilence.owed = s.owed ∧ s.startSilence.choices = s.choices ∧
    s.startSilence.pending = s.pending := by
  simp [State.startSilence]

@[simp] theorem State.startKeepalive_frame (s : State) :
    s.startKeepalive.sp = s.sp ∧ s.startKeepalive.windows = s.windows ∧ s.startKeepalive.pool = s.pool ∧
    s.startKeepalive.streams = s.streams ∧ s.startKeepalive.apply = s.apply ∧
    s.startKeepalive.holds = s.holds ∧ s.startKeepalive.engine = s.engine ∧ s.startKeepalive.audit = s.audit ∧
    s.startKeepalive.mp = s.mp ∧ s.startKeepalive.mgmt = s.mgmt ∧ s.startKeepalive.events = s.events ∧
    s.startKeepalive.global = s.global ∧ s.startKeepalive.softReset = s.softReset ∧
    s.startKeepalive.resetAsserted = s.resetAsserted ∧ s.startKeepalive.out = s.out ∧
    s.startKeepalive.owed = s.owed ∧ s.startKeepalive.choices = s.choices ∧ s.startKeepalive.pending = s.pending := by
  simp [State.startKeepalive]

@[simp] theorem State.requestHello_frame (s : State) :
    s.requestHello.sp = s.sp ∧ s.requestHello.windows = s.windows ∧ s.requestHello.pool = s.pool ∧
    s.requestHello.streams = s.streams ∧ s.requestHello.apply = s.apply ∧ s.requestHello.holds = s.holds ∧
    s.requestHello.engine = s.engine ∧ s.requestHello.audit = s.audit ∧ s.requestHello.mp = s.mp ∧
    s.requestHello.mgmt = s.mgmt ∧ s.requestHello.events = s.events ∧ s.requestHello.global = s.global ∧
    s.requestHello.softReset = s.softReset ∧ s.requestHello.resetAsserted = s.resetAsserted ∧
    s.requestHello.out = s.out ∧ s.requestHello.owed = s.owed ∧ s.requestHello.choices = s.choices ∧
    s.requestHello.pending = s.pending := by
  simp [State.requestHello]

@[simp] theorem State.enterTraining_frame (s : State) :
    s.enterTraining.sp = s.sp ∧ s.enterTraining.windows = s.windows ∧ s.enterTraining.pool = s.pool ∧
    s.enterTraining.streams = s.streams ∧ s.enterTraining.holds = s.holds ∧ s.enterTraining.engine = s.engine ∧
    s.enterTraining.audit = s.audit ∧ s.enterTraining.mp = s.mp ∧ s.enterTraining.mgmt = s.mgmt ∧
    s.enterTraining.events = s.events ∧ s.enterTraining.global = s.global ∧
    s.enterTraining.softReset = s.softReset ∧ s.enterTraining.resetAsserted = s.resetAsserted ∧
    s.enterTraining.out = s.out ∧ s.enterTraining.owed = s.owed ∧ s.enterTraining.choices = s.choices ∧
    s.enterTraining.pending = s.pending := by
  simp [State.enterTraining]

@[simp] theorem State.leaveUp_frame (s : State) :
    s.leaveUp.sp = s.sp ∧ s.leaveUp.windows = s.windows ∧ s.leaveUp.pool = s.pool ∧ s.leaveUp.holds = s.holds ∧
    s.leaveUp.engine = s.engine ∧ s.leaveUp.audit = s.audit ∧ s.leaveUp.mp = s.mp ∧ s.leaveUp.mgmt = s.mgmt ∧
    s.leaveUp.events = s.events ∧ s.leaveUp.global = s.global ∧ s.leaveUp.softReset = s.softReset ∧
    s.leaveUp.resetAsserted = s.resetAsserted ∧ s.leaveUp.out = s.out ∧ s.leaveUp.owed = s.owed ∧
    s.leaveUp.choices = s.choices ∧ s.leaveUp.pending = s.pending := by
  simp [State.leaveUp]

@[simp] theorem State.putProtocolError_frame (s : State) (c : RetrainCause) :
    (s.putProtocolError c).sp = s.sp ∧ (s.putProtocolError c).windows = s.windows ∧
    (s.putProtocolError c).pool = s.pool ∧ (s.putProtocolError c).streams = s.streams ∧
    (s.putProtocolError c).link = s.link ∧ (s.putProtocolError c).apply = s.apply ∧
    (s.putProtocolError c).holds = s.holds ∧ (s.putProtocolError c).engine = s.engine ∧
    (s.putProtocolError c).audit = s.audit ∧ (s.putProtocolError c).mp = s.mp ∧
    (s.putProtocolError c).mgmt = s.mgmt ∧ (s.putProtocolError c).global = s.global ∧
    (s.putProtocolError c).softReset = s.softReset ∧ (s.putProtocolError c).resetAsserted = s.resetAsserted ∧
    (s.putProtocolError c).out = s.out ∧ (s.putProtocolError c).owed = s.owed ∧
    (s.putProtocolError c).choices = s.choices ∧ (s.putProtocolError c).pending = s.pending := by
  unfold State.putProtocolError; repeat' split
  all_goals simp

@[simp] theorem State.retrain_frame (s : State) (c : RetrainCause) :
    (s.retrain c).sp = s.sp ∧ (s.retrain c).windows = s.windows ∧ (s.retrain c).pool = s.pool ∧
    (s.retrain c).holds = s.holds ∧ (s.retrain c).engine = s.engine ∧ (s.retrain c).audit = s.audit ∧
    (s.retrain c).mp = s.mp ∧ (s.retrain c).mgmt = s.mgmt ∧ (s.retrain c).global = s.global ∧
    (s.retrain c).softReset = s.softReset ∧ (s.retrain c).resetAsserted = s.resetAsserted ∧
    (s.retrain c).out = s.out ∧ (s.retrain c).owed = s.owed ∧ (s.retrain c).choices = s.choices ∧
    (s.retrain c).pending = s.pending := by
  simp [State.retrain]

@[simp] theorem State.reachUp_frame (s : State) (x : Option Byte) :
    (s.reachUp x).sp = s.sp ∧ (s.reachUp x).windows = s.windows ∧ (s.reachUp x).pool = s.pool ∧
    (s.reachUp x).apply = s.apply ∧ (s.reachUp x).holds = s.holds ∧ (s.reachUp x).engine = s.engine ∧
    (s.reachUp x).audit = s.audit ∧ (s.reachUp x).mp = s.mp ∧ (s.reachUp x).mgmt = s.mgmt ∧
    (s.reachUp x).global = s.global ∧ (s.reachUp x).softReset = s.softReset ∧
    (s.reachUp x).resetAsserted = s.resetAsserted ∧ (s.reachUp x).out = s.out ∧
    (s.reachUp x).choices = s.choices ∧ (s.reachUp x).pending = s.pending := by
  simp [State.reachUp]

@[simp] theorem State.acceptFrame_frame (s : State) :
    s.acceptFrame.sp = s.sp ∧ s.acceptFrame.windows = s.windows ∧ s.acceptFrame.pool = s.pool ∧
    s.acceptFrame.streams = s.streams ∧ s.acceptFrame.apply = s.apply ∧ s.acceptFrame.holds = s.holds ∧
    s.acceptFrame.engine = s.engine ∧ s.acceptFrame.audit = s.audit ∧ s.acceptFrame.mp = s.mp ∧
    s.acceptFrame.mgmt = s.mgmt ∧ s.acceptFrame.events = s.events ∧ s.acceptFrame.global = s.global ∧
    s.acceptFrame.softReset = s.softReset ∧ s.acceptFrame.resetAsserted = s.resetAsserted ∧
    s.acceptFrame.out = s.out ∧ s.acceptFrame.owed = s.owed ∧ s.acceptFrame.choices = s.choices ∧
    s.acceptFrame.pending = s.pending := by
  simp [State.acceptFrame]

@[simp] theorem State.creditPending_frame (s : State) :
    s.creditPending.sp = s.sp ∧ s.creditPending.windows = s.windows ∧ s.creditPending.pool = s.pool ∧
    s.creditPending.streams = s.streams ∧ s.creditPending.link = s.link ∧ s.creditPending.holds = s.holds ∧
    s.creditPending.engine = s.engine ∧ s.creditPending.audit = s.audit ∧ s.creditPending.mp = s.mp ∧
    s.creditPending.mgmt = s.mgmt ∧ s.creditPending.events = s.events ∧ s.creditPending.global = s.global ∧
    s.creditPending.softReset = s.softReset ∧ s.creditPending.resetAsserted = s.resetAsserted ∧
    s.creditPending.out = s.out ∧ s.creditPending.owed = s.owed ∧ s.creditPending.choices = s.choices ∧
    s.creditPending.pending = s.pending := by
  unfold State.creditPending; repeat' split
  all_goals simp

@[simp] theorem State.requestNak_frame (s : State) (i : StreamId) (x : NakSlot) :
    (s.requestNak i x).sp = s.sp ∧ (s.requestNak i x).windows = s.windows ∧ (s.requestNak i x).pool = s.pool ∧
    (s.requestNak i x).link = s.link ∧ (s.requestNak i x).apply = s.apply ∧
    (s.requestNak i x).holds = s.holds ∧ (s.requestNak i x).engine = s.engine ∧
    (s.requestNak i x).audit = s.audit ∧ (s.requestNak i x).mp = s.mp ∧ (s.requestNak i x).mgmt = s.mgmt ∧
    (s.requestNak i x).events = s.events ∧ (s.requestNak i x).global = s.global ∧
    (s.requestNak i x).softReset = s.softReset ∧ (s.requestNak i x).resetAsserted = s.resetAsserted ∧
    (s.requestNak i x).out = s.out ∧ (s.requestNak i x).owed = s.owed ∧
    (s.requestNak i x).choices = s.choices ∧ (s.requestNak i x).pending = s.pending := by
  simp [State.requestNak]

@[simp] theorem State.responderReads_frame (s : State) :
    s.responderReads.sp = s.sp ∧ s.responderReads.windows = s.windows ∧ s.responderReads.pool = s.pool ∧
    s.responderReads.streams = s.streams ∧ s.responderReads.link = s.link ∧ s.responderReads.apply = s.apply ∧
    s.responderReads.holds = s.holds ∧ s.responderReads.engine = s.engine ∧ s.responderReads.mp = s.mp ∧
    s.responderReads.mgmt = s.mgmt ∧ s.responderReads.events = s.events ∧ s.responderReads.global = s.global ∧
    s.responderReads.softReset = s.softReset ∧ s.responderReads.resetAsserted = s.resetAsserted ∧
    s.responderReads.out = s.out ∧ s.responderReads.owed = s.owed ∧ s.responderReads.choices = s.choices ∧
    s.responderReads.pending = s.pending := by
  simp [State.responderReads]

@[simp] theorem State.responderApplied_frame (s : State) (i : StreamId) (x : Session) (q : Seq) :
    (s.responderApplied i x q).sp = s.sp ∧ (s.responderApplied i x q).windows = s.windows ∧
    (s.responderApplied i x q).pool = s.pool ∧ (s.responderApplied i x q).streams = s.streams ∧
    (s.responderApplied i x q).link = s.link ∧ (s.responderApplied i x q).apply = s.apply ∧
    (s.responderApplied i x q).holds = s.holds ∧ (s.responderApplied i x q).engine = s.engine ∧
    (s.responderApplied i x q).mp = s.mp ∧ (s.responderApplied i x q).mgmt = s.mgmt ∧
    (s.responderApplied i x q).events = s.events ∧ (s.responderApplied i x q).global = s.global ∧
    (s.responderApplied i x q).softReset = s.softReset ∧
    (s.responderApplied i x q).resetAsserted = s.resetAsserted ∧ (s.responderApplied i x q).out = s.out ∧
    (s.responderApplied i x q).owed = s.owed ∧ (s.responderApplied i x q).choices = s.choices ∧
    (s.responderApplied i x q).pending = s.pending := by
  unfold State.responderApplied; dsimp only; split <;> simp

@[simp] theorem State.passIssuePoint_frame (s : State) :
    s.passIssuePoint.sp = s.sp ∧ s.passIssuePoint.windows = s.windows ∧ s.passIssuePoint.pool = s.pool ∧
    s.passIssuePoint.streams = s.streams ∧ s.passIssuePoint.link = s.link ∧ s.passIssuePoint.holds = s.holds ∧
    s.passIssuePoint.engine = s.engine ∧ s.passIssuePoint.audit = s.audit ∧ s.passIssuePoint.mp = s.mp ∧
    s.passIssuePoint.mgmt = s.mgmt ∧ s.passIssuePoint.events = s.events ∧ s.passIssuePoint.global = s.global ∧
    s.passIssuePoint.softReset = s.softReset ∧ s.passIssuePoint.resetAsserted = s.resetAsserted ∧
    s.passIssuePoint.out = s.out ∧ s.passIssuePoint.owed = s.owed ∧ s.passIssuePoint.choices = s.choices ∧
    s.passIssuePoint.pending = s.pending := by
  simp [State.passIssuePoint]

@[simp] theorem State.retireOkay_frame (s : State) (e : ApplyEntry) :
    (s.retireOkay e).sp = s.sp ∧ (s.retireOkay e).windows = s.windows ∧ (s.retireOkay e).pool = s.pool ∧
    (s.retireOkay e).link = s.link ∧ (s.retireOkay e).apply = s.apply ∧ (s.retireOkay e).holds = s.holds ∧
    (s.retireOkay e).engine = s.engine ∧ (s.retireOkay e).mp = s.mp ∧ (s.retireOkay e).mgmt = s.mgmt ∧
    (s.retireOkay e).events = s.events ∧ (s.retireOkay e).global = s.global ∧
    (s.retireOkay e).softReset = s.softReset ∧ (s.retireOkay e).resetAsserted = s.resetAsserted ∧
    (s.retireOkay e).out = s.out ∧ (s.retireOkay e).owed = s.owed ∧ (s.retireOkay e).choices = s.choices ∧
    (s.retireOkay e).pending = s.pending := by
  simp [State.retireOkay]

@[simp] theorem State.applyError_frame (s : State) (e : ApplyEntry) :
    (s.applyError e).sp = s.sp ∧ (s.applyError e).windows = s.windows ∧ (s.applyError e).pool = s.pool ∧
    (s.applyError e).streams = s.streams ∧ (s.applyError e).link = s.link ∧ (s.applyError e).apply = s.apply ∧
    (s.applyError e).holds = s.holds ∧ (s.applyError e).engine = s.engine ∧ (s.applyError e).audit = s.audit ∧
    (s.applyError e).mp = s.mp ∧ (s.applyError e).mgmt = s.mgmt ∧ (s.applyError e).global = s.global ∧
    (s.applyError e).softReset = s.softReset ∧ (s.applyError e).resetAsserted = s.resetAsserted ∧
    (s.applyError e).out = s.out ∧ (s.applyError e).owed = s.owed ∧ (s.applyError e).choices = s.choices ∧
    (s.applyError e).pending = s.pending := by
  simp [State.applyError]

@[simp] theorem State.refuseApply_frame (s : State) (e : ApplyEntry) :
    (s.refuseApply e).sp = s.sp ∧ (s.refuseApply e).windows = s.windows ∧ (s.refuseApply e).pool = s.pool ∧
    (s.refuseApply e).holds = s.holds ∧ (s.refuseApply e).engine = s.engine ∧ (s.refuseApply e).mp = s.mp ∧
    (s.refuseApply e).mgmt = s.mgmt ∧ (s.refuseApply e).global = s.global ∧
    (s.refuseApply e).softReset = s.softReset ∧ (s.refuseApply e).resetAsserted = s.resetAsserted ∧
    (s.refuseApply e).out = s.out ∧ (s.refuseApply e).choices = s.choices ∧
    (s.refuseApply e).pending = s.pending := by
  simp [State.refuseApply]

@[simp] theorem State.retire_frame (s : State) (e : ApplyEntry) (o : ApplyOutcome) :
    (s.retire e o).sp = s.sp ∧ (s.retire e o).windows = s.windows ∧ (s.retire e o).pool = s.pool ∧
    (s.retire e o).holds = s.holds ∧ (s.retire e o).engine = s.engine ∧ (s.retire e o).mp = s.mp ∧
    (s.retire e o).mgmt = s.mgmt ∧ (s.retire e o).global = s.global ∧ (s.retire e o).softReset = s.softReset ∧
    (s.retire e o).resetAsserted = s.resetAsserted ∧ (s.retire e o).out = s.out ∧
    (s.retire e o).choices = s.choices ∧ (s.retire e o).pending = s.pending := by
  unfold State.retire; dsimp only; repeat' split
  all_goals simp

@[simp] theorem State.applyDisturbs_frame (s : State) (a : Addr) :
    (s.applyDisturbs a).sp = s.sp ∧ (s.applyDisturbs a).windows = s.windows ∧
    (s.applyDisturbs a).pool = s.pool ∧ (s.applyDisturbs a).streams = s.streams ∧
    (s.applyDisturbs a).link = s.link ∧ (s.applyDisturbs a).apply = s.apply ∧
    (s.applyDisturbs a).holds = s.holds ∧ (s.applyDisturbs a).engine = s.engine ∧
    (s.applyDisturbs a).mp = s.mp ∧ (s.applyDisturbs a).mgmt = s.mgmt ∧ (s.applyDisturbs a).events = s.events ∧
    (s.applyDisturbs a).global = s.global ∧ (s.applyDisturbs a).softReset = s.softReset ∧
    (s.applyDisturbs a).resetAsserted = s.resetAsserted ∧ (s.applyDisturbs a).out = s.out ∧
    (s.applyDisturbs a).owed = s.owed ∧ (s.applyDisturbs a).choices = s.choices ∧
    (s.applyDisturbs a).pending = s.pending := by
  unfold State.applyDisturbs; repeat' split
  all_goals simp

/-- A grant to an apply write changes the Apply Queue, the Memory Port with its output, the responder and the count
of free choices. -/
@[simp] theorem State.grantApply_frame (s : State) :
    s.grantApply.sp = s.sp ∧ s.grantApply.windows = s.windows ∧ s.grantApply.pool = s.pool ∧
    s.grantApply.streams = s.streams ∧ s.grantApply.link = s.link ∧ s.grantApply.holds = s.holds ∧
    s.grantApply.engine = s.engine ∧ s.grantApply.mgmt = s.mgmt ∧ s.grantApply.events = s.events ∧
    s.grantApply.global = s.global ∧ s.grantApply.softReset = s.softReset ∧
    s.grantApply.resetAsserted = s.resetAsserted ∧ s.grantApply.owed = s.owed ∧ s.grantApply.pending = s.pending := by
  unfold State.grantApply; dsimp only; split
  all_goals simp

@[simp] theorem State.applyDone_frame (s : State) (t : MpTag) (o : ApplyOutcome) :
    (s.applyDone t o).sp = s.sp ∧ (s.applyDone t o).windows = s.windows ∧ (s.applyDone t o).pool = s.pool ∧
    (s.applyDone t o).streams = s.streams ∧ (s.applyDone t o).link = s.link ∧
    (s.applyDone t o).holds = s.holds ∧ (s.applyDone t o).engine = s.engine ∧
    (s.applyDone t o).audit = s.audit ∧ (s.applyDone t o).mp = s.mp ∧ (s.applyDone t o).mgmt = s.mgmt ∧
    (s.applyDone t o).events = s.events ∧ (s.applyDone t o).global = s.global ∧
    (s.applyDone t o).softReset = s.softReset ∧ (s.applyDone t o).resetAsserted = s.resetAsserted ∧
    (s.applyDone t o).out = s.out ∧ (s.applyDone t o).owed = s.owed ∧ (s.applyDone t o).choices = s.choices ∧
    (s.applyDone t o).pending = s.pending := by
  simp [State.applyDone]

@[simp] theorem State.proceedCopy_frame (s : State) (i : StreamId) :
    (s.proceedCopy i).sp = s.sp ∧ (s.proceedCopy i).windows = s.windows ∧ (s.proceedCopy i).pool = s.pool ∧
    (s.proceedCopy i).streams = s.streams ∧ (s.proceedCopy i).link = s.link ∧
    (s.proceedCopy i).apply = s.apply ∧ (s.proceedCopy i).holds = s.holds ∧ (s.proceedCopy i).audit = s.audit ∧
    (s.proceedCopy i).mp = s.mp ∧ (s.proceedCopy i).mgmt = s.mgmt ∧ (s.proceedCopy i).events = s.events ∧
    (s.proceedCopy i).global = s.global ∧ (s.proceedCopy i).softReset = s.softReset ∧
    (s.proceedCopy i).resetAsserted = s.resetAsserted ∧ (s.proceedCopy i).out = s.out ∧
    (s.proceedCopy i).owed = s.owed ∧ (s.proceedCopy i).choices = s.choices ∧
    (s.proceedCopy i).pending = s.pending := by
  unfold State.proceedCopy; repeat' split
  all_goals simp

@[simp] theorem State.searchOver_frame (s : State) (l : List StreamId) :
    (s.searchOver l).sp = s.sp ∧ (s.searchOver l).windows = s.windows ∧ (s.searchOver l).pool = s.pool ∧
    (s.searchOver l).link = s.link ∧ (s.searchOver l).apply = s.apply ∧ (s.searchOver l).holds = s.holds ∧
    (s.searchOver l).audit = s.audit ∧ (s.searchOver l).mp = s.mp ∧ (s.searchOver l).mgmt = s.mgmt ∧
    (s.searchOver l).events = s.events ∧ (s.searchOver l).global = s.global ∧
    (s.searchOver l).softReset = s.softReset ∧ (s.searchOver l).resetAsserted = s.resetAsserted ∧
    (s.searchOver l).out = s.out ∧ (s.searchOver l).owed = s.owed ∧ (s.searchOver l).choices = s.choices ∧
    (s.searchOver l).pending = s.pending := by
  induction l generalizing s with
  | nil => simp [State.searchOver]
  | cons k rest ih =>
    unfold State.searchOver
    dsimp only
    repeat' split
    all_goals simp [ih]

@[simp] theorem State.serviceSearch_frame (s : State) :
    s.serviceSearch.sp = s.sp ∧ s.serviceSearch.windows = s.windows ∧ s.serviceSearch.pool = s.pool ∧
    s.serviceSearch.link = s.link ∧ s.serviceSearch.apply = s.apply ∧ s.serviceSearch.holds = s.holds ∧
    s.serviceSearch.audit = s.audit ∧ s.serviceSearch.mp = s.mp ∧ s.serviceSearch.mgmt = s.mgmt ∧
    s.serviceSearch.events = s.events ∧ s.serviceSearch.global = s.global ∧
    s.serviceSearch.softReset = s.softReset ∧ s.serviceSearch.resetAsserted = s.resetAsserted ∧
    s.serviceSearch.out = s.out ∧ s.serviceSearch.owed = s.owed ∧ s.serviceSearch.choices = s.choices ∧
    s.serviceSearch.pending = s.pending := by
  unfold State.serviceSearch; repeat' split
  all_goals simp

@[simp] theorem State.engineRetest_frame (s : State) :
    s.engineRetest.sp = s.sp ∧ s.engineRetest.windows = s.windows ∧ s.engineRetest.pool = s.pool ∧
    s.engineRetest.streams = s.streams ∧ s.engineRetest.link = s.link ∧ s.engineRetest.apply = s.apply ∧
    s.engineRetest.holds = s.holds ∧ s.engineRetest.audit = s.audit ∧ s.engineRetest.mp = s.mp ∧
    s.engineRetest.mgmt = s.mgmt ∧ s.engineRetest.events = s.events ∧ s.engineRetest.global = s.global ∧
    s.engineRetest.softReset = s.softReset ∧ s.engineRetest.resetAsserted = s.resetAsserted ∧
    s.engineRetest.out = s.out ∧ s.engineRetest.owed = s.owed ∧ s.engineRetest.choices = s.choices ∧
    s.engineRetest.pending = s.pending := by
  unfold State.engineRetest; repeat' split
  all_goals simp

@[simp] theorem State.forwardPlain_frame (s : State) (r : SpRequest) :
    (s.forwardPlain r).sp = s.sp ∧ (s.forwardPlain r).windows = s.windows ∧ (s.forwardPlain r).pool = s.pool ∧
    (s.forwardPlain r).streams = s.streams ∧ (s.forwardPlain r).link = s.link ∧
    (s.forwardPlain r).apply = s.apply ∧ (s.forwardPlain r).holds = s.holds ∧
    (s.forwardPlain r).mgmt = s.mgmt ∧ (s.forwardPlain r).events = s.events ∧
    (s.forwardPlain r).global = s.global ∧ (s.forwardPlain r).softReset = s.softReset ∧
    (s.forwardPlain r).resetAsserted = s.resetAsserted ∧ (s.forwardPlain r).out = s.out ∧
    (s.forwardPlain r).owed = s.owed ∧ (s.forwardPlain r).choices = s.choices ∧
    (s.forwardPlain r).pending = s.pending := by
  simp [State.forwardPlain]

@[simp] theorem State.forwardTracked_frame (s : State) (r : SpRequest) (i : StreamId) :
    (s.forwardTracked r i).sp = s.sp ∧ (s.forwardTracked r i).windows = s.windows ∧
    (s.forwardTracked r i).pool = s.pool ∧ (s.forwardTracked r i).link = s.link ∧
    (s.forwardTracked r i).apply = s.apply ∧ (s.forwardTracked r i).holds = s.holds ∧
    (s.forwardTracked r i).mgmt = s.mgmt ∧ (s.forwardTracked r i).global = s.global ∧
    (s.forwardTracked r i).softReset = s.softReset ∧ (s.forwardTracked r i).resetAsserted = s.resetAsserted ∧
    (s.forwardTracked r i).out = s.out ∧ (s.forwardTracked r i).choices = s.choices ∧
    (s.forwardTracked r i).pending = s.pending := by
  simp [State.forwardTracked]

@[simp] theorem State.refuseHead_frame (s : State) (r : SpRequest) (c : EventCode) (i : StreamId) (d : BitVec 20) :
    (s.refuseHead r c i d).windows = s.windows ∧ (s.refuseHead r c i d).pool = s.pool ∧
    (s.refuseHead r c i d).streams = s.streams ∧ (s.refuseHead r c i d).link = s.link ∧
    (s.refuseHead r c i d).apply = s.apply ∧ (s.refuseHead r c i d).holds = s.holds ∧
    (s.refuseHead r c i d).engine = s.engine ∧ (s.refuseHead r c i d).audit = s.audit ∧
    (s.refuseHead r c i d).mp = s.mp ∧ (s.refuseHead r c i d).mgmt = s.mgmt ∧
    (s.refuseHead r c i d).global = s.global ∧ (s.refuseHead r c i d).softReset = s.softReset ∧
    (s.refuseHead r c i d).resetAsserted = s.resetAsserted ∧ (s.refuseHead r c i d).out = s.out ∧
    (s.refuseHead r c i d).owed = s.owed ∧ (s.refuseHead r c i d).choices = s.choices ∧
    (s.refuseHead r c i d).pending = s.pending := by
  simp [State.refuseHead]

@[simp] theorem State.waitForSlot_frame (s : State) (i : StreamId) :
    (s.waitForSlot i).windows = s.windows ∧ (s.waitForSlot i).pool = s.pool ∧
    (s.waitForSlot i).streams = s.streams ∧ (s.waitForSlot i).link = s.link ∧
    (s.waitForSlot i).apply = s.apply ∧ (s.waitForSlot i).holds = s.holds ∧
    (s.waitForSlot i).engine = s.engine ∧ (s.waitForSlot i).audit = s.audit ∧ (s.waitForSlot i).mp = s.mp ∧
    (s.waitForSlot i).mgmt = s.mgmt ∧ (s.waitForSlot i).events = s.events ∧
    (s.waitForSlot i).global = s.global ∧ (s.waitForSlot i).softReset = s.softReset ∧
    (s.waitForSlot i).resetAsserted = s.resetAsserted ∧ (s.waitForSlot i).out = s.out ∧
    (s.waitForSlot i).owed = s.owed ∧ (s.waitForSlot i).choices = s.choices ∧
    (s.waitForSlot i).pending = s.pending := by
  unfold State.waitForSlot; repeat' split
  all_goals simp

@[simp] theorem State.refreshRequests_frame (s : State) :
    s.refreshRequests.sp = s.sp ∧ s.refreshRequests.windows = s.windows ∧ s.refreshRequests.pool = s.pool ∧
    s.refreshRequests.streams = s.streams ∧ s.refreshRequests.apply = s.apply ∧
    s.refreshRequests.holds = s.holds ∧ s.refreshRequests.engine = s.engine ∧
    s.refreshRequests.audit = s.audit ∧ s.refreshRequests.mp = s.mp ∧ s.refreshRequests.mgmt = s.mgmt ∧
    s.refreshRequests.events = s.events ∧ s.refreshRequests.global = s.global ∧
    s.refreshRequests.softReset = s.softReset ∧ s.refreshRequests.resetAsserted = s.resetAsserted ∧
    s.refreshRequests.out = s.out ∧ s.refreshRequests.owed = s.owed ∧ s.refreshRequests.pending = s.pending := by
  simp [State.refreshRequests]

end Sys2Proof.Machine
end

