-- ==== Sys2Proof/Laws/Settle.lean ====
section
/-! SUPPORT. What the end of an event leaves unchanged (`settle` and its parts). -/

namespace Sys2Proof.Machine

@[simp] theorem State.applyPass_frame (n : Nat) (s : State) :
    (State.applyPass n s).sp = s.sp ∧ (State.applyPass n s).windows = s.windows ∧
    (State.applyPass n s).pool = s.pool ∧ (State.applyPass n s).holds = s.holds ∧
    (State.applyPass n s).engine = s.engine ∧ (State.applyPass n s).mp = s.mp ∧
    (State.applyPass n s).mgmt = s.mgmt ∧ (State.applyPass n s).global = s.global ∧
    (State.applyPass n s).softReset = s.softReset ∧ (State.applyPass n s).resetAsserted = s.resetAsserted ∧
    (State.applyPass n s).out = s.out ∧ (State.applyPass n s).choices = s.choices ∧
    (State.applyPass n s).pending = s.pending := by
  induction n generalizing s with
  | zero => simp [State.applyPass]
  | succ n ih =>
    unfold State.applyPass
    dsimp only
    repeat' split
    all_goals simp [ih]

theorem putOwed_frame (l : List OwedEvent) (s : State) :
    (putOwed l s).sp = s.sp ∧ (putOwed l s).windows = s.windows ∧ (putOwed l s).pool = s.pool ∧
    (putOwed l s).streams = s.streams ∧ (putOwed l s).link = s.link ∧ (putOwed l s).apply = s.apply ∧
    (putOwed l s).holds = s.holds ∧ (putOwed l s).engine = s.engine ∧ (putOwed l s).audit = s.audit ∧
    (putOwed l s).mp = s.mp ∧ (putOwed l s).mgmt = s.mgmt ∧ (putOwed l s).global = s.global ∧
    (putOwed l s).softReset = s.softReset ∧ (putOwed l s).resetAsserted = s.resetAsserted ∧
    (putOwed l s).out = s.out ∧ (putOwed l s).owed = s.owed ∧ (putOwed l s).choices = s.choices ∧
    (putOwed l s).pending = s.pending := by
  induction l generalizing s with
  | nil => simp [putOwed]
  | cons o rest ih => simp [putOwed, ih]

@[simp] theorem State.flushOwed_frame (s : State) :
    s.flushOwed.sp = s.sp ∧ s.flushOwed.windows = s.windows ∧ s.flushOwed.pool = s.pool ∧
    s.flushOwed.streams = s.streams ∧ s.flushOwed.link = s.link ∧ s.flushOwed.apply = s.apply ∧
    s.flushOwed.holds = s.holds ∧ s.flushOwed.engine = s.engine ∧ s.flushOwed.audit = s.audit ∧
    s.flushOwed.mp = s.mp ∧ s.flushOwed.mgmt = s.mgmt ∧ s.flushOwed.global = s.global ∧
    s.flushOwed.softReset = s.softReset ∧ s.flushOwed.resetAsserted = s.resetAsserted ∧
    s.flushOwed.out = s.out ∧ s.flushOwed.choices = s.choices ∧ s.flushOwed.pending = s.pending := by
  simp [State.flushOwed, putOwed_frame]

/-- After the owed entries are put, none is owed. -/
@[simp] theorem State.flushOwed_owed (s : State) : s.flushOwed.owed = [] := rfl

/-- Where nothing is owed, nothing is put. -/
theorem State.flushOwed_of_none (s : State) (h : s.owed = []) : s.flushOwed = s := by
  have e : (allStreams.flatMap (fun i => s.owed.filter (fun o => o.stream == i))) = [] := by simp [h]
  unfold State.flushOwed
  simp only [e, putOwed]
  rw [← h]

/-- What the taking of a head leaves unchanged. -/
theorem State.tryHead_frame (s t : State) (r : SpRequest) (h : s.tryHead r = .taken t) :
    t.windows = s.windows ∧ t.link = s.link ∧ t.apply = s.apply ∧ t.mgmt = s.mgmt ∧ t.global = s.global ∧
    t.softReset = s.softReset ∧ t.resetAsserted = s.resetAsserted ∧ t.out = s.out ∧ t.choices = s.choices ∧
    t.pending = s.pending := by
  have offer := fun i => State.offer_frame s i ((s.stream i).cfg.lineIndex r.addr) r.payload
  have place : ∀ i, s.placeMirror r i = .taken t →
      (t.windows = s.windows ∧ t.link = s.link ∧ t.apply = s.apply ∧ t.mgmt = s.mgmt ∧ t.global = s.global ∧
        t.softReset = s.softReset ∧ t.resetAsserted = s.resetAsserted ∧ t.out = s.out ∧ t.choices = s.choices ∧
        t.pending = s.pending) := by
    intro i hp
    have o := offer i
    unfold State.placeMirror at hp
    dsimp only at hp
    split at hp
    · rename_i heq
      rw [heq] at o
      simp at o
      injection hp with hp
      subst hp
      simp [o]
    · rename_i heq
      rw [heq] at o
      simp at o
      injection hp with hp
      subst hp
      simp [o]
    · split at hp
      · injection hp with hp
        subst hp
        simp
      · exact HeadAnswer.noConfusion hp
  unfold State.tryHead at h
  split at h
  · exact HeadAnswer.noConfusion h
  split at h
  · exact HeadAnswer.noConfusion h
  split at h
  · injection h with h; subst h; simp
  split at h
  · injection h with h; subst h; simp
  split at h
  · exact HeadAnswer.noConfusion h
  unfold State.classify at h
  split at h
  · injection h with h; subst h; simp
  split at h
  · injection h with h; subst h; simp
  split at h
  · injection h with h; subst h; simp
  · unfold State.mirrorHead at h
    split at h
    all_goals first
      | exact place _ h
      | (injection h with h; subst h; simp)
  · unfold State.gatedHead at h
    split at h
    all_goals first
      | (injection h with h; subst h; simp; done)
      | (unfold State.gateCheck at h
         split at h
         · exact place _ h
         · split at h
           · injection h with h; subst h; simp
           · exact HeadAnswer.noConfusion h)
  · unfold State.guardedHead at h
    split at h
    all_goals (injection h with h; subst h; simp)

@[simp] theorem State.drainHead_frame (n : Nat) (s : State) :
    (State.drainHead n s).windows = s.windows ∧ (State.drainHead n s).link = s.link ∧
    (State.drainHead n s).apply = s.apply ∧ (State.drainHead n s).mgmt = s.mgmt ∧
    (State.drainHead n s).global = s.global ∧ (State.drainHead n s).softReset = s.softReset ∧
    (State.drainHead n s).resetAsserted = s.resetAsserted ∧ (State.drainHead n s).out = s.out ∧
    (State.drainHead n s).choices = s.choices ∧ (State.drainHead n s).pending = s.pending := by
  induction n generalizing s with
  | zero => simp [State.drainHead]
  | succ n ih =>
    unfold State.drainHead
    split
    · simp
    · split
      · rename_i t ht
        have f := State.tryHead_frame _ _ _ ht
        simp at f
        simp [ih, f]
      · simp
      · simp

@[simp] theorem State.searchAndDrain_frame (s : State) :
    s.searchAndDrain.windows = s.windows ∧ s.searchAndDrain.link = s.link ∧ s.searchAndDrain.apply = s.apply ∧
    s.searchAndDrain.mgmt = s.mgmt ∧ s.searchAndDrain.global = s.global ∧
    s.searchAndDrain.softReset = s.softReset ∧ s.searchAndDrain.resetAsserted = s.resetAsserted ∧
    s.searchAndDrain.out = s.out ∧ s.searchAndDrain.pending = s.pending := by
  unfold State.searchAndDrain
  dsimp only
  repeat' split
  all_goals simp

/-- The end of an event leaves the Window Table, the Management Port, the configuration, the resets, the outputs and
the queue of commands. -/
@[simp] theorem settle_frame (s : State) :
    (settle s).windows = s.windows ∧ (settle s).mgmt = s.mgmt ∧ (settle s).global = s.global ∧
    (settle s).softReset = s.softReset ∧ (settle s).resetAsserted = s.resetAsserted ∧ (settle s).out = s.out ∧
    (settle s).pending = s.pending := by
  unfold settle
  split <;> simp

/-- During a soft reset, or while RESET_N is asserted, the end of an event only puts what is owed. -/
theorem settle_stopped (s : State) (h : (s.softReset || s.resetAsserted) = true) : settle s = s.flushOwed := by
  unfold settle; rw [if_pos h]

/-- Outside the resets the end of an event runs the four parts in their order. -/
theorem settle_live (s : State) (h1 : s.softReset = false) (h2 : s.resetAsserted = false) :
    settle s = ((State.applyPass (s.apply.queue.length + 1) s).flushOwed).searchAndDrain.refreshRequests := by
  unfold settle; simp [h1, h2]

end Sys2Proof.Machine
end

