-- ==== Sys2Proof/Laws/Exec.lean ====
section
/-! SUPPORT. The meaning of every command, while RESET_N is released, as the end of an event over the command's own
effect: the one lemma per command that later proofs cite in place of unfolding `exec`. -/

namespace Sys2Proof.Machine

/-- Two events end in the same state where their effects are the same state. -/
theorem next_settle {u v : State} (h : u = v) :
    (Host.Outcome.next (settle u) : Host.Outcome State Fault Refusal) = .next (settle v) := by rw [h]

theorem happen_of (f : State → State) (s : State) (h : s.resetAsserted = false) : happen f s = .next (settle (f s)) := by
  simp [happen, h]

theorem expiry_of (p : State → Bool) (f : State → State) (s : State) (h : s.live) (hp : p s = true) :
    expiry p f s = .next (settle (f s)) := by
  simp [expiry, happen, h.1, h.2, hp]

theorem exec_spResponseDelivery (s : State) (h : s.resetAsserted = false) :
    exec .spResponseDelivery s = .next (settle (s.deliverResponse)) :=
  happen_of (fun s => s.deliverResponse) s h

theorem exec_mpGrant (s : State) (h : s.resetAsserted = false) :
    exec .mpGrant s = .next (settle (s.mpGrant)) :=
  happen_of (fun s => s.mpGrant) s h

theorem exec_mpResponse (t : MpTag) (x : Status) (d : LineBytes) (s : State) (h : s.resetAsserted = false) :
    exec (.mpResponse t x d) s = .next (settle (s.mpResponse t x d)) :=
  happen_of (fun s => s.mpResponse t x d) s h

theorem exec_transmitGrant (s : State) (h : s.resetAsserted = false) :
    exec .transmitGrant s = .next (settle (s.transmitGrant)) :=
  happen_of (fun s => s.transmitGrant) s h

theorem exec_helloArrival (f : HelloFrame) (s : State) (h : s.resetAsserted = false) :
    exec (.helloArrival f) s = .next (settle (s.helloArrives f)) :=
  happen_of (fun s => s.helloArrives f) s h

theorem exec_recArrival (f : RecFrame) (s : State) (h : s.resetAsserted = false) :
    exec (.recArrival f) s = .next (settle (s.frameArrives f.number (State.recAccepted f))) :=
  happen_of (fun s => s.frameArrives f.number (State.recAccepted f)) s h

theorem exec_ackArrival (f : AckFrame) (s : State) (h : s.resetAsserted = false) :
    exec (.ackArrival f) s = .next (settle (s.frameArrives f.number (fun s => s.creditReturn f.credit (State.ackAccepted f)))) :=
  happen_of (fun s => s.frameArrives f.number (fun s => s.creditReturn f.credit (State.ackAccepted f))) s h

theorem exec_nakArrival (f : NakFrame) (s : State) (h : s.resetAsserted = false) :
    exec (.nakArrival f) s = .next (settle (s.frameArrives f.number (fun s => s.creditReturn f.credit (State.nakAccepted f)))) :=
  happen_of (fun s => s.frameArrives f.number (fun s => s.creditReturn f.credit (State.nakAccepted f))) s h

theorem exec_openArrival (f : OpenFrame) (s : State) (h : s.resetAsserted = false) :
    exec (.openArrival f) s = .next (settle (s.frameArrives f.number (State.openAccepted f))) :=
  happen_of (fun s => s.frameArrives f.number (State.openAccepted f)) s h

theorem exec_openedArrival (f : HandshakeFrame) (s : State) (h : s.resetAsserted = false) :
    exec (.openedArrival f) s = .next (settle (s.frameArrives f.number (State.openedAccepted f))) :=
  happen_of (fun s => s.frameArrives f.number (State.openedAccepted f)) s h

theorem exec_refuseArrival (f : RefuseFrame) (s : State) (h : s.resetAsserted = false) :
    exec (.refuseArrival f) s = .next (settle (s.frameArrives f.number (State.refuseAccepted f))) :=
  happen_of (fun s => s.frameArrives f.number (State.refuseAccepted f)) s h

theorem exec_closeArrival (f : HandshakeFrame) (s : State) (h : s.resetAsserted = false) :
    exec (.closeArrival f) s = .next (settle (s.frameArrives f.number (State.closeAccepted f))) :=
  happen_of (fun s => s.frameArrives f.number (State.closeAccepted f)) s h

theorem exec_closedArrival (f : HandshakeFrame) (s : State) (h : s.resetAsserted = false) :
    exec (.closedArrival f) s = .next (settle (s.frameArrives f.number (State.closedAccepted f))) :=
  happen_of (fun s => s.frameArrives f.number (State.closedAccepted f)) s h

theorem exec_dgqArrival (f : DgqFrame) (s : State) (h : s.resetAsserted = false) :
    exec (.dgqArrival f) s = .next (settle (s.frameArrives f.number (State.dgqAccepted f))) :=
  happen_of (fun s => s.frameArrives f.number (State.dgqAccepted f)) s h

theorem exec_dgrArrival (f : DgrFrame) (s : State) (h : s.resetAsserted = false) :
    exec (.dgrArrival f) s = .next (settle (s.frameArrives f.number (State.dgrAccepted f))) :=
  happen_of (fun s => s.frameArrives f.number (State.dgrAccepted f)) s h

theorem exec_badFrameArrival (s : State) (h : s.resetAsserted = false) :
    exec .badFrameArrival s = .next (settle (s.badFrame)) :=
  happen_of (fun s => s.badFrame) s h

theorem exec_unknownKindArrival (k : Byte) (s : State) (hk : isFrameKind k = false) (h : s.resetAsserted = false) :
    exec (.unknownKindArrival k) s = .next (settle (s.unknownKind)) := by
  simp [exec, execUnknownKindArrival, hk, happen, h]

theorem exec_slotWaitTimerExpiry (s : State) (h : s.live) (hp : s.sp.slotWait.isSome = true) :
    exec .slotWaitTimerExpiry s = .next (settle (s.slotWaitExpired)) :=
  expiry_of (fun s => s.sp.slotWait.isSome) (fun s => s.slotWaitExpired) s h hp

theorem exec_combineDeadlineExpiry (i : StreamId) (s : State) (h : s.live) (hp : (s.stream i).sendList.any (fun r => r.deadline.isSome) = true) :
    exec (.combineDeadlineExpiry i) s = .next (settle (s.combineExpired i)) :=
  expiry_of (fun s => (s.stream i).sendList.any (fun r => r.deadline.isSome)) (fun s => s.combineExpired i) s h hp

theorem exec_holdDeadlineExpiry (k : Fin 4) (s : State) (h : s.live) (hp : (s.hold k).isSome = true) :
    exec (.holdDeadlineExpiry k) s = .next (settle (s.holdExpired k)) :=
  expiry_of (fun s => (s.hold k).isSome) (fun s => s.holdExpired k) s h hp

theorem exec_helloTimerExpiry (s : State) (h : s.live) (hp : (s.link.state == .training && s.link.helloTimer.isSome) = true) :
    exec .helloTimerExpiry s = .next (settle (s.helloExpired)) :=
  expiry_of (fun s => (s.link.state == .training && s.link.helloTimer.isSome)) (fun s => s.helloExpired) s h hp

theorem exec_trainingTimerExpiry (s : State) (h : s.live) (hp : (s.link.state == .training && s.link.trainingTimer.isSome) = true) :
    exec .trainingTimerExpiry s = .next (settle (s.trainingFailed)) :=
  expiry_of (fun s => (s.link.state == .training && s.link.trainingTimer.isSome)) (fun s => s.trainingFailed) s h hp

theorem exec_downRetryExpiry (s : State) (h : s.live) (hp : (s.link.state == .down && s.link.downTimer.isSome) = true) :
    exec .downRetryExpiry s = .next (settle (s.enterTraining)) :=
  expiry_of (fun s => (s.link.state == .down && s.link.downTimer.isSome)) (fun s => s.enterTraining) s h hp

theorem exec_keepaliveTimerExpiry (s : State) (h : s.live) (hp : (s.link.state == .up && s.link.keepaliveTimer.isSome) = true) :
    exec .keepaliveTimerExpiry s = .next (settle (s.keepaliveExpired)) :=
  expiry_of (fun s => (s.link.state == .up && s.link.keepaliveTimer.isSome)) (fun s => s.keepaliveExpired) s h hp

theorem exec_silenceTimerExpiry (s : State) (h : s.live) (hp : (s.link.state == .up && s.link.silenceTimer.isSome) = true) :
    exec .silenceTimerExpiry s = .next (settle (s.retrain .silence)) :=
  expiry_of (fun s => (s.link.state == .up && s.link.silenceTimer.isSome)) (fun s => s.retrain .silence) s h hp

theorem exec_handshakeTimerExpiry (i : StreamId) (s : State) (h : s.live) (hp : (s.stream i).handshakeTimer.isSome = true) :
    exec (.handshakeTimerExpiry i) s = .next (settle (s.handshakeExpired i)) :=
  expiry_of (fun s => (s.stream i).handshakeTimer.isSome) (fun s => s.handshakeExpired i) s h hp

theorem exec_retransmitTimerExpiry (i : StreamId) (s : State) (h : s.live) (hp : (s.stream i).retransmitTimer.isSome = true) :
    exec (.retransmitTimerExpiry i) s = .next (settle (s.retransmitExpired i)) :=
  expiry_of (fun s => (s.stream i).retransmitTimer.isSome) (fun s => s.retransmitExpired i) s h hp

theorem exec_ackDelayTimerExpiry (i : StreamId) (s : State) (h : s.live) (hp : (s.stream i).ackDelayTimer.isSome = true) :
    exec (.ackDelayTimerExpiry i) s = .next (settle (s.ackDelayExpired i)) :=
  expiry_of (fun s => (s.stream i).ackDelayTimer.isSome) (fun s => s.ackDelayExpired i) s h hp

theorem exec_responseTimerExpiry (s : State) (h : s.live) (hp : (s.audit.initiator.state == .waiting && s.audit.initiator.timer.isSome) = true) :
    exec .responseTimerExpiry s = .next (settle (s.responseExpired)) :=
  expiry_of (fun s => (s.audit.initiator.state == .waiting && s.audit.initiator.timer.isSome)) (fun s => s.responseExpired) s h hp

theorem exec_responderTimerExpiry (s : State) (h : s.live) (hp : (s.audit.responder.state == .armed && s.audit.responder.timer.isSome) = true) :
    exec .responderTimerExpiry s = .next (settle (s.responderExpired)) :=
  expiry_of (fun s => (s.audit.responder.state == .armed && s.audit.responder.timer.isSome)) (fun s => s.responderExpired) s h hp

theorem exec_openStream (p : CmdParams) (s : State) (h : s.resetAsserted = false) :
    exec (.openStream p) s = .next (settle (s.commandWrite 0x01#8 p)) :=
  happen_of (fun s => s.commandWrite 0x01#8 p) s h

theorem exec_openClean (p : CmdParams) (s : State) (h : s.resetAsserted = false) :
    exec (.openClean p) s = .next (settle (s.commandWrite 0x02#8 p)) :=
  happen_of (fun s => s.commandWrite 0x02#8 p) s h

theorem exec_reopen (p : CmdParams) (s : State) (h : s.resetAsserted = false) :
    exec (.reopen p) s = .next (settle (s.commandWrite 0x03#8 p)) :=
  happen_of (fun s => s.commandWrite 0x03#8 p) s h

theorem exec_close (p : CmdParams) (s : State) (h : s.resetAsserted = false) :
    exec (.close p) s = .next (settle (s.commandWrite 0x04#8 p)) :=
  happen_of (fun s => s.commandWrite 0x04#8 p) s h

theorem exec_resetStream (p : CmdParams) (s : State) (h : s.resetAsserted = false) :
    exec (.resetStream p) s = .next (settle (s.commandWrite 0x05#8 p)) :=
  happen_of (fun s => s.commandWrite 0x05#8 p) s h

theorem exec_listen (p : CmdParams) (s : State) (h : s.resetAsserted = false) :
    exec (.listen p) s = .next (settle (s.commandWrite 0x06#8 p)) :=
  happen_of (fun s => s.commandWrite 0x06#8 p) s h

theorem exec_linkEnable (p : CmdParams) (s : State) (h : s.resetAsserted = false) :
    exec (.linkEnable p) s = .next (settle (s.commandWrite 0x10#8 p)) :=
  happen_of (fun s => s.commandWrite 0x10#8 p) s h

theorem exec_linkDisable (p : CmdParams) (s : State) (h : s.resetAsserted = false) :
    exec (.linkDisable p) s = .next (settle (s.commandWrite 0x11#8 p)) :=
  happen_of (fun s => s.commandWrite 0x11#8 p) s h

theorem exec_linkRetrain (p : CmdParams) (s : State) (h : s.resetAsserted = false) :
    exec (.linkRetrain p) s = .next (settle (s.commandWrite 0x12#8 p)) :=
  happen_of (fun s => s.commandWrite 0x12#8 p) s h

theorem exec_auditStart (p : CmdParams) (s : State) (h : s.resetAsserted = false) :
    exec (.auditStart p) s = .next (settle (s.commandWrite 0x20#8 p)) :=
  happen_of (fun s => s.commandWrite 0x20#8 p) s h

theorem exec_auditAbort (p : CmdParams) (s : State) (h : s.resetAsserted = false) :
    exec (.auditAbort p) s = .next (settle (s.commandWrite 0x21#8 p)) :=
  happen_of (fun s => s.commandWrite 0x21#8 p) s h

theorem exec_softReset (p : CmdParams) (s : State) (h : s.resetAsserted = false) :
    exec (.softReset p) s = .next (settle (s.commandWrite 0x5A#8 p)) :=
  happen_of (fun s => s.commandWrite 0x5A#8 p) s h

theorem exec_unknownCommand (code : Byte) (p : CmdParams) (s : State) (h : s.resetAsserted = false) :
    exec (.unknownCommand code p) s = .next (settle (s.commandWrite code p)) :=
  happen_of (fun s => s.commandWrite code p) s h

theorem exec_softResetCompletion (s : State) (h : s.resetAsserted = false) :
    exec .softResetCompletion s = .next (settle (if s.resetWaitOver then s.finishSoftReset else s)) :=
  happen_of (fun s => if s.resetWaitOver then s.finishSoftReset else s) s h

theorem exec_eventPop (s : State) (h : s.resetAsserted = false) :
    exec .eventPop s = .next (settle (s.spiRead 0x340#16)) :=
  happen_of (fun s => s.spiRead 0x340#16) s h

theorem exec_minimumFreeRead (s : State) (h : s.resetAsserted = false) :
    exec .minimumFreeRead s = .next (settle (s.spiRead 0x301#16)) :=
  happen_of (fun s => s.spiRead 0x301#16) s h

theorem exec_frameCheckErrorCountRead (s : State) (h : s.resetAsserted = false) :
    exec .frameCheckErrorCountRead s = .next (settle (s.spiRead 0x311#16)) :=
  happen_of (fun s => s.spiRead 0x311#16) s h

theorem exec_windowEntryWrite (n : Fin 16) (o : Fin 4) (w : Word32) (s : State) (h : s.resetAsserted = false) :
    exec (.windowEntryWrite n o w) s = .next (settle (s.spiWrite (windowAddress n o) (fun s => s.writeWindow n o.val w))) :=
  happen_of (fun s => s.spiWrite (windowAddress n o) (fun s => s.writeWindow n o.val w)) s h

theorem exec_streamConfigWrite (i : StreamId) (o : Fin 16) (w : Word32) (s : State) (h : s.resetAsserted = false) :
    exec (.streamConfigWrite i o w) s = .next (settle (s.spiWrite (streamAddress i o) (fun s => s.writeStream i o.val w))) :=
  happen_of (fun s => s.spiWrite (streamAddress i o) (fun s => s.writeStream i o.val w)) s h

/-- Word 0010H is accepted whatever its bits (R158, log 44). -/
theorem writeThreshold_of (s : State) (w : Word32) :
    s.writeThreshold w = some (State.poolThresholdTest { s with
      global := { s.global with poolLowThreshold := fieldOf w 0 9, alertEnable := bitOf w 16 } }) := rfl

theorem exec_poolLowThresholdWrite (w : Word32) (s : State) (h : s.resetAsserted = false) :
    exec (.poolLowThresholdWrite w) s = .next (settle (s.spiWrite 0x10#16 (fun s => s.writeThreshold w))) :=
  happen_of (fun s => s.spiWrite 0x10#16 (fun s => s.writeThreshold w)) s h

theorem exec_alertEnableWrite (w : Word32) (s : State) (h : s.resetAsserted = false) :
    exec (.alertEnableWrite w) s = .next (settle (s.spiWrite 0x10#16 (fun s => s.writeThreshold w))) :=
  happen_of (fun s => s.spiWrite 0x10#16 (fun s => s.writeThreshold w)) s h

theorem exec_controlWordWrite (a : BitVec 16) (w : Word32) (s : State) (h : s.resetAsserted = false) :
    exec (.controlWordWrite a w) s = .next (settle (s.spiWrite a (fun s => s.controlWrite a w))) :=
  happen_of (fun s => s.spiWrite a (fun s => s.controlWrite a w)) s h

theorem exec_spiBadCommandByte (s : State) (h : s.resetAsserted = false) :
    exec .spiBadCommandByte s = .next (settle (s.badCommandByte)) :=
  happen_of (fun s => s.badCommandByte) s h

theorem exec_csNRising (s : State) (h : s.resetAsserted = false) :
    exec .csNRising s = .next (settle (s.endTransaction)) :=
  happen_of (fun s => s.endTransaction) s h

theorem exec_headTaking (r : SpRequest) (s : State) (h : r.wf = true) :
    exec (.headTaking r) s = .next (settle (s.joinChannel r)) := by
  simp [exec, execHeadTaking, h]

/-- A frame accepted by the link goes to its owner, the silence timer restarted and the frame counted (R73). -/
theorem frameArrives_accepted (n : Byte) (owner : State → State) (s : State) (h : s.accepts n) :
    s.frameArrives n owner = owner s.atAcceptance := by
  obtain ⟨⟨_, h2⟩, h3, h4⟩ := h
  have e : s.startSilence.link.rxNumber = s.link.rxNumber := rfl
  simp only [State.frameArrives, h2, h3, Bool.false_eq_true, if_false, State.numberedFrame, e, h4, if_true]
  rfl

/-- A credit return that fits is added, and the frame goes to its owner (R81). -/
theorem creditReturn_fits (n : Byte) (owner : State → State) (s : State) (h : s.creditFits n) :
    s.atAcceptance.creditReturn n owner = owner (s.credited n) := by
  have e : s.atAcceptance.link.credits + n.toNat ≤ s.atAcceptance.link.lastAdvert := h
  simp only [State.creditReturn, e, if_true]
  rfl

/-- A credit return that does not fit retrains the link (R81). -/
theorem creditReturn_unfit (n : Byte) (owner : State → State) (s : State) (h : ¬ s.creditFits n) :
    s.atAcceptance.creditReturn n owner = s.atAcceptance.retrain .badCreditReturn := by
  have e : ¬ s.atAcceptance.link.credits + n.toNat ≤ s.atAcceptance.link.lastAdvert := h
  simp only [State.creditReturn, e, if_false]

/-- A command write that the port takes is the command, taken with the SPI port moved on (R159). -/
theorem commandWrite_of (code : Byte) (p : CmdParams) (s : State) (h : s.writable) :
    s.commandWrite code p = (s.afterWord 0x330#16).takeCommand code p := by
  obtain ⟨⟨_, h2⟩, h3⟩ := h
  simp only [State.commandWrite, State.spiWrite, h3, if_false, h2, Bool.false_eq_true]
  rfl

/-- A word's write that the port takes: its own check decides (R158). -/
theorem spiWrite_of (a : BitVec 16) (write : State → Option State) (s : State) (h : s.writable) :
    s.spiWrite a write = match write (s.afterWord a) with
      | some t => t
      | none => s.afterRefusal a := by
  obtain ⟨⟨_, h2⟩, h3⟩ := h
  simp only [State.spiWrite, h3, if_false, h2, Bool.false_eq_true]
  rfl

/-- A word's read that the port takes: its value is shifted out, and its side effect follows (R157). -/
theorem spiRead_of (a : BitVec 16) (s : State) (h : s.portOpen) :
    s.spiRead a = (s.afterRead a (s.controlRead a)).readEffect a := by
  simp only [State.spiRead, h.2, if_false]
  rfl

/-- The side effects of the three reads that have one (R43, R74, R161). -/
@[simp] theorem readEffect_pop (s : State) : s.readEffect 0x340#16 = s.popEvent := rfl

@[simp] theorem readEffect_minFree (s : State) : s.readEffect 0x301#16 = s.rearmMinFree := rfl

@[simp] theorem readEffect_frameErrors (s : State) : s.readEffect 0x311#16 = s.clearFrameErrors := rfl

/-- Every other read has none. -/
theorem readEffect_none (a : BitVec 16) (s : State) (h : a ≠ 0x340#16) (h1 : a ≠ 0x301#16) (h2 : a ≠ 0x311#16) :
    s.readEffect a = s := by
  simp only [State.readEffect, h, h1, h2, if_false]

/-- A read's side effect leaves all but the Event Queue, the minimum-free monitor and the frame-check error count. -/
theorem readEffect_frame (a : BitVec 16) (s : State) :
    s.readEffect a = { s with
      events := (s.readEffect a).events
      pool := { s.pool with minFree := (s.readEffect a).pool.minFree }
      link := { s.link with frameErrors := (s.readEffect a).link.frameErrors } } := by
  unfold State.readEffect State.popEvent State.rearmMinFree State.clearFrameErrors
  dsimp only
  split
  · split <;> rfl
  · split
    · rfl
    · split <;> rfl

/-- A read beside the rows of the table, RESET_N released (log 33). -/
theorem readControlWord_of (a : BitVec 16) (s : State) (h : s.resetAsserted = false) :
    readControlWord a s = .next (settle (s.spiRead a)) :=
  happen_of (fun s => s.spiRead a) s h

/-- The step of an empty queue makes the read that waits first (log 33). -/
theorem step_reads (a : BitVec 16) (rest : List (BitVec 16)) (s : State) (h : s.pending = [])
    (h1 : s.mgmt.reads = a :: rest) :
    step s = readControlWord a { s with mgmt := { s.mgmt with reads := rest } } := by
  simp only [step, h, State.idleStep, h1]

/-- The step of an empty queue with no read waiting is one microsecond (log 1). -/
theorem step_tick (s : State) (h : s.pending = []) (h1 : s.mgmt.reads = []) : step s = .next s.tick := by
  simp only [step, h, State.idleStep, h1]

end Sys2Proof.Machine
end

