-- ==== Sys2Proof/Tests/Slice0.lean ====
section
/-! SUPPORT. The author's tests: ill-formed commands, the frame check, small checks of the commands, and for every
obligation a concrete state and operands that meet its hypotheses. -/

namespace Sys2Proof.Tests

set_option Elab.async false

open Sys2Proof Sys2Proof.Machine

/-! ### Helpers -/

/-- The state that a command leads to, where it answers next. -/
def after (c : Instr) (s : State) : Option State :=
  match exec c s with
  | .next t => some t
  | .fault _ => none
  | .refused _ => none

/-- A field read from the state after a command. -/
def look {α : Type} (c : Instr) (s : State) (f : State → α) : Option α := (after c s).map f

def noParams : CmdParams := { stream := 1, granuleCount := 1#11, firstGranule := 0#10 }

def lineOf7 : LineBytes := Vector.replicate 64 7#8

def sendConfig : StreamConfig :=
  { StreamConfig.reset with extentBase := 0x10000#36, peer := 2, reserve := 1, limit := 2, policy := .stall }

def receiveConfig : StreamConfig :=
  { StreamConfig.reset with direction := .receive, extentBase := 0x20000#36, peer := 3 }

/-- Stream 1 sends in state a from an extent of 64 lines, stream 2 receives in state b; a MIRROR, a GATED, a GUARDED
and a PASS window are enabled. -/
def site (a b : StreamState) : State :=
  ((((((State.reset.setWindow 0 { enable := true, kind := .mirror, base := 0x10000#36, sizeCode := 5, stream := 1 }).setWindow
    1 { enable := true, kind := .gated, base := 0x10800#36, sizeCode := 5, stream := 1 }).setWindow
    2 { enable := true, kind := .guarded, base := 0x20000#36, sizeCode := 6, stream := 2 }).setWindow
    3 { enable := true, kind := .pass, base := 0x30000#36, sizeCode := 0, stream := 0 }).setStream
    1 { Stream.reset with cfg := sendConfig, state := a, session := 5#8, ackedSeq := 65535#16,
                          sentSeq := 65535#16 }).setStream
    2 { Stream.reset with cfg := receiveConfig, state := b, session := 9#8, appliedSeq := 65535#16 })

/-- A record of stream 1 in the slot of its seq. -/
def aRecord (q : Nat) (st : RecordState) (pending : Nat) : Record :=
  { slot := q, stream := 1, session := 5#8, seq := BitVec.ofNat 16 q, kind := .data, line := 1#20,
    payload := [(0, 7#8)], state := st, pendingWrites := pending, discard := false, deadline := none }

/-- Stream 1 has these records in its send list, from slot 0 on. -/
def withRecords (s : State) (l : List Record) : State :=
  { s.modStream 1 (fun st => { st with sendList := l, nextSeq := BitVec.ofNat 16 l.length,
                                       cursor := l.head?.map Record.seq }) with
    pool := { s.pool with freeList := (List.range 512).drop l.length, minFree := 512 - l.length } }

/-- The Resync Engine is reading the first line of stream 1. -/
def reading (s : State) : State :=
  { s with
    engine := { state := .reading { stream := 1, session := 5#8, line := 0#20, lineAddr := 0x10000#36, spoiled := false },
                pointer := 1 }
    mp := { s.mp with outstanding := [lineRead 20 0x10000#36 .copy] } }

/-- The link is UP and confirmed with credits. -/
def linkedUp (s : State) : State :=
  { s with link := { s.link with state := .up, confirmed := true, heard := true, heardSent := true, lastAdvert := 32,
                                 credits := 30, txNumber := 4#8, rxNumber := 6#8 } }

/-- A one-byte write at an address. -/
def aWrite (a : Addr) : SpRequest := { tag := 3, addr := a, op := .write [{ data := 7#8, strobe := true }] }

def aRead (a : Addr) (n : Nat) : SpRequest := { tag := 3, addr := a, op := .read n }

/-- A write held for stream 1 in a slot. -/
def aHeld (t : SpTag) (a : Addr) (n : Nat) : HeldWrite :=
  { tag := t, addr := a, lanes := [{ data := 7#8, strobe := true }], stream := 1, session := 5#8, mark := none,
    deadline := 0#32, order := n }

/-- The four hold slots hold writes of stream 1. -/
def fullHolds (s : State) : State :=
  { s with holds := #v[some (aHeld 8 0x10800#36 1), some (aHeld 9 0x10840#36 2), some (aHeld 10 0x10880#36 3),
      some (aHeld 11 0x108C0#36 4)] }

/-- Stream 1 has no slot left: its limit is reached. -/
def noSlot (s : State) : State := withRecords s [aRecord 0 .sent 0, aRecord 1 .sent 0]

def setPolicy (s : State) (p : Policy) : State :=
  s.modStream 1 (fun st => { st with cfg := { st.cfg with policy := p } })

theorem live_of (s : State) (h : (s.resetAsserted || s.softReset) = false) : s.live := by
  simpa [State.live] using h

theorem writable_of (s : State) (h : (s.resetAsserted || s.softReset || (s.mgmt.spi.kind == .bad)) = false) :
    s.writable := by
  simpa [State.writable, State.live, and_assoc] using h

theorem settled_of (s : State)
    (h : (s.owed.isEmpty && s.apply.queue.isEmpty && decide (s.serviceSearch = s)) = true) : s.settled := by
  simp only [Bool.and_eq_true, List.isEmpty_iff, decide_eq_true_eq] at h
  refine ⟨h.1.1, ⟨?_, ?_⟩, h.2⟩
  · rw [h.1.2]; rfl
  · rw [h.1.2]; intro e rest c; cases c

/-- The conditions of headReady, tested. -/
def readyB (s : State) (r : SpRequest) : Bool :=
  !s.resetAsserted && !s.softReset && s.owed.isEmpty && s.apply.queue.isEmpty && decide (s.serviceSearch = s) &&
    s.sp.channel.isEmpty && r.wf && !s.tagOutstanding r.tag

theorem ready {s : State} {r : SpRequest} (h : readyB s r = true) : s.headReady r := by
  simp only [readyB, Bool.and_eq_true, List.isEmpty_iff, decide_eq_true_eq, Bool.not_eq_true'] at h
  obtain ⟨⟨⟨⟨⟨⟨⟨h1, h2⟩, h3⟩, h4⟩, h5⟩, h6⟩, h7⟩, h8⟩ := h
  exact ⟨⟨h1, h2⟩, settled_of s (by simp [h3, h4, h5]), h6, h7, h8⟩

/-- The conditions of headClassified, tested. -/
def classifiedB (s : State) (r : SpRequest) : Bool :=
  readyB s r && !(r.crossesLine || r.emptyWrite || s.heldLine (lineOf r.addr))

theorem classified {s : State} {r : SpRequest} (h : classifiedB s r = true) : s.headClassified r := by
  simp only [classifiedB, Bool.and_eq_true, Bool.not_eq_true', Bool.or_eq_false_iff] at h
  exact ⟨ready h.1, h.2.1.1, h.2.1.2, h.2.2⟩

/-- The conditions of headInWindow, tested. -/
def windowB (s : State) (r : SpRequest) (k : WindowKind) (i : StreamId) : Bool :=
  classifiedB s r && (r.isWrite && decide ((s.windowOf r.addr).map (fun w => (w.kind, w.stream)) = some (k, i)))

theorem inWindow {s : State} {r : SpRequest} {k : WindowKind} {i : StreamId} (h : windowB s r k i = true) :
    s.headInWindow r k i := by
  simp only [windowB, Bool.and_eq_true, decide_eq_true_eq, Option.map_eq_some_iff, Prod.mk.injEq] at h
  obtain ⟨h0, hw, w, h1, h2, h3⟩ := h
  exact ⟨classified h0, hw, w, h1, h2, h3⟩

/-! ### Ill-formed commands -/

theorem test_illformed_noBytes : (Instr.headTaking (aRead 0#36 0)).wf = false := by decide

theorem test_illformed_manyBytes : (Instr.headTaking (aRead 0#36 65)).wf = false := by decide

theorem test_illformed_knownKind : (Instr.unknownKindArrival 1#8).wf = false := by decide

theorem test_illformed_knownCode : (Instr.unknownCommand 0x5A#8 noParams).wf = false := by decide

theorem test_illformed_stop :
    exec (.headTaking (aRead 0#36 65)) State.reset = .fault .byteCountOutOfRange ∧
      exec (.unknownKindArrival 11#8) State.reset = .fault .kindIsKnown := ⟨rfl, rfl⟩

theorem test_noWordSpellsACommand : decodeTableWord 32 1 = none := by decide

/-! ### The frame check (Table 0-7) -/

/-- The check value of the bytes of "123456789". -/
theorem test_crc :
    ~~~(crcRun crcInit [0x31#8, 0x32#8, 0x33#8, 0x34#8, 0x35#8, 0x36#8, 0x37#8, 0x38#8, 0x39#8]) = 0xCBF43926#32 := by
  decide +kernel


/-! ### Witnesses: the step and the resets -/

/-- The controller reads these words next. -/
def withReads (l : List (BitVec 16)) (s : State) : State := { s with mgmt := { s.mgmt with reads := l } }

theorem test_witness_StepRunsFrontCommand :
    ({ State.reset with pending := [.transmitGrant] } : State).pending = .transmitGrant :: [] ∧
      ((withReads [0xFFFF#16] State.reset).pending = [] ∧
        (withReads [0xFFFF#16] State.reset).mgmt.reads = 0xFFFF#16 :: []) ∧
      State.reset.pending = [] ∧ State.reset.mgmt.reads = [] ∧ State.reset.resetAsserted = false := by decide

/-- Requests are presented on the request channel. -/
def presenting (l : List SpRequest) (s : State) : State := { s with sp := { s.sp with channel := l } }

theorem test_witness_ResetNSequence :
    (State.reset.resetAsserted = false ∧ State.reset.owed = []) ∧
      (exec .mpGrant { State.reset with resetAsserted := true } = .next { State.reset with resetAsserted := true }) ∧
      ({ State.reset with resetAsserted := true } : State).sp.channel = [] ∧
      ((presenting [aRead 0#36 64, aWrite 0x3F#36] State.reset).sp.channel = [aRead 0#36 64] ++ [aWrite 0x3F#36] ∧
        (aWrite 0x3F#36).wf = true ∧ (aWrite 0x3F#36).crossesLine = false ∧ (aWrite 0x3F#36).emptyWrite = false) :=
  ⟨⟨rfl, rfl⟩, rfl, rfl, rfl, by decide, by decide, by decide⟩

/-- A head waiting at a reset is classified at its release and at a soft reset's completion. -/
theorem test_reset_classifies :
    look .resetNRelease (presenting [aWrite 0x3F#36] { State.reset with resetAsserted := true })
        (fun t => (t.sp.channel, t.mp.throughQueue.map (fun q => q.req))) = some ([], [aWrite 0x3F#36]) ∧
      look .softResetCompletion (presenting [aWrite 0x3F#36] { site .active .bound with softReset := true })
        (fun t => (t.sp.channel, t.mp.throughQueue.map (fun q => q.req), t.events.entries.length)) =
        some ([], [aWrite 0x3F#36], 1) := by decide +kernel

/-- A soft reset is under way, the wait not over. -/
def inSoftReset : State :=
  { State.reset with softReset := true, mp := { State.reset.mp with outstanding := [lineRead 20 0#36 .copy] } }

theorem test_witness_SoftResets :
    (State.reset.writable ∧ (reading (site .resync .off)).writable) ∧
      (writeAddress (.windowEntryWrite 15 3 0#32) = some 0x13F#16 ∧
        writeAddress (.streamConfigWrite 7 15 0#32) = some 0x27F#16 ∧ inSoftReset.portOpen ∧ inSoftReset.owed = []) ∧
      (isExpiry .responderTimerExpiry = true ∧ isArrival (.unknownKindArrival 12#8) = true ∧
        (Instr.unknownKindArrival 12#8).wf = true ∧ inSoftReset.resetAsserted = false) ∧
      (({ State.reset with softReset := true } : State).mp.outstanding = [] ∧
        ({ State.reset with softReset := true } : State).mp.throughQueue = [] ∧
        ({ State.reset with softReset := true } : State).sp.responses = []) ∧
      inSoftReset.mp.outstanding ≠ [] :=
  ⟨⟨writable_of _ (by decide +kernel), writable_of _ (by decide +kernel)⟩,
    ⟨rfl, rfl, ⟨rfl, by decide⟩, rfl⟩, ⟨rfl, rfl, by decide, rfl⟩, ⟨rfl, rfl, rfl⟩, by decide⟩

/-! ### Witnesses: invariants, the end of an event -/

theorem partition_of (s : State)
    (h : (decide ((s.pool.freeList ++ s.usedSlots).Perm (List.range 512))) = true) : s.poolPartitioned := by
  have p := of_decide_eq_true h
  exact ⟨p.nodup_iff.mpr List.nodup_range, fun n => by rw [p.mem_iff]; exact List.mem_range⟩

theorem test_witness_Invariants :
    (State.reset.poolPartitioned ∧ (noSlot (site .active .bound)).poolPartitioned) ∧
      ((linkedUp State.reset).creditsBounded ∧ State.reset.queuesBounded) ∧
      (fullHolds (site .active .bound)).heldLinesDistinct ∧
      (∃ t, step { linkedUp (noSlot (fullHolds (site .active .bound))) with pending := [.transmitGrant] } = .next t) := by
  refine ⟨⟨partition_of _ (by decide +kernel), partition_of _ (by decide +kernel)⟩,
    ⟨⟨fun h => absurd rfl h, by decide, by decide⟩, by decide, by decide, by decide⟩, ?_, ⟨_, rfl⟩⟩
  intro j k g h hg hh n
  revert hg hh n
  revert j k
  have e : ∀ j, (fullHolds (site .active .bound)).hold j = #v[some (aHeld 8 0x10800#36 1), some (aHeld 9 0x10840#36 2),
      some (aHeld 10 0x10880#36 3), some (aHeld 11 0x108C0#36 4)].get j := fun _ => rfl
  intro j k hg hh n
  rw [e] at hg hh
  fin_cases j <;> fin_cases k <;>
    first
      | exact absurd rfl n
      | (injection hg with hg; injection hh with hh; subst hg; subst hh; decide)

theorem test_witness_SettledKept :
    (reading (site .resync .bound)).settledWhenLive ∧
      ∃ t, step { reading (site .resync .bound) with pending := [.transmitGrant] } = .next t :=
  ⟨fun _ => settled_of _ (by decide +kernel), _, rfl⟩

theorem test_witness_EventEnd :
    (writesWindows (.windowEntryWrite 0 0 0#32) = true ∧ writesWindows .transmitGrant = false ∧
        ∃ t, exec .transmitGrant (linkedUp State.reset) = .next t) ∧
      (State.reset.sp.channel = [] ∧ State.reset.applyRest) ∧
      ((linkedUp State.reset).live ∧ (settle (linkedUp State.reset)).link.state = .up) :=
  ⟨⟨rfl, rfl, _, rfl⟩, ⟨rfl, (settled_of State.reset (by decide +kernel)).2.1⟩, live_of _ (by decide), by decide +kernel⟩

/-! ### Witnesses: the System Port -/

/-- The SP response queue holds a response of tag 3. -/
def answered3 (s : State) : State := s.respond 3 .okay []

theorem test_witness_CrossingHead :
    ((site .active .bound).headReady (aRead 0x1003F#36 2) ∧ bytePos 0x1003F#36 + 2 > 64) ∧
      ((fullHolds (site .active .bound)).headReady (aRead 0x10801#36 64) ∧ bytePos 0x10801#36 + 64 > 64) ∧
      { tag := 3, status := .error, data := errorBytes (aRead 0x1003F#36 2) } ∈
        (State.respond State.reset 3 .error [0#8, 0#8]).sp.responses :=
  ⟨⟨ready (by decide +kernel), by decide⟩, ⟨ready (by decide +kernel), by decide⟩, by decide +kernel⟩

theorem test_witness_EmptyWrite :
    (fullHolds (site .active .bound)).headReady
        { tag := 3, addr := 0x10800#36, op := .write [{ data := 7#8, strobe := false }] } ∧
      SpRequest.crossesLine { tag := 3, addr := 0x10800#36, op := .write [{ data := 7#8, strobe := false }] } = false ∧
      ∀ l ∈ [{ data := 7#8, strobe := false : Lane }], l.strobe = false :=
  ⟨ready (by decide +kernel), by decide, by decide⟩

theorem test_witness_HeadWaits :
    ((answered3 State.reset).live ∧ (answered3 State.reset).settled ∧ (answered3 State.reset).sp.channel = [] ∧
        (aWrite 0#36).wf = true ∧ (answered3 State.reset).headBlocked (aWrite 0#36)) ∧
      ((fullHolds (site .active .bound)).settled ∧ (fullHolds (site .active .bound)).headBlocked (aRead 0x10800#36 64)) ∧
      (fullHolds (withRecords (site .active .bound) [aRecord 0 .sent 0])).headBlocked (aWrite 0x10FFF#36) ∧
      (fullHolds (reading (site .resync .bound))).headBlocked (aWrite 0x10FFF#36) ∧
      (let s := presenting [aRead 0x10800#36 64] (fullHolds (site .active .bound))
       s.live ∧ s.settled ∧ s.sp.channel = [aRead 0x10800#36 64] ∧ s.noChannel.headBlocked (aRead 0x10800#36 64)) ∧
      (let s := presenting [aWrite 0x10FFF#36] (fullHolds (reading (site .resync .bound)))
       s.settled ∧ s.noChannel.headBlocked (aWrite 0x10FFF#36)) ∧
      (presenting [aRead 0#36 1, aWrite 0#36] State.reset).sp.channel = [aRead 0#36 1] ++ [aWrite 0#36] :=
  ⟨⟨live_of _ (by decide), settled_of _ (by decide +kernel), rfl, by decide, .inl (by decide)⟩,
    ⟨settled_of _ (by decide +kernel), .inr (.inl ⟨by decide, by decide, by decide +kernel⟩)⟩,
    .inr (.inr ⟨1, inWindow (by decide +kernel), .inr rfl, by decide +kernel, by decide +kernel⟩),
    .inr (.inr ⟨1, inWindow (by decide +kernel), .inl rfl, by decide +kernel, by decide +kernel⟩),
    ⟨live_of _ (by decide), settled_of _ (by decide +kernel), rfl,
      .inr (.inl ⟨by decide, by decide, by decide +kernel⟩)⟩,
    ⟨settled_of _ (by decide +kernel),
      .inr (.inr ⟨1, inWindow (by decide +kernel), .inl rfl, by decide +kernel, by decide +kernel⟩)⟩, rfl⟩

theorem test_witness_Unrecorded :
    (site .active .bound).headUnrecorded (aRead 0x10000#36 64) ∧
      (site .active .bound).headUnrecorded (aWrite 0x11000#36) ∧
      (site .active .bound).headUnrecorded (aWrite 0x30000#36) ∧
      (site .off .bound).headUnrecorded (aWrite 0x10000#36) ∧
      (site .closing .bound).headUnrecorded (aWrite 0x107FF#36) ∧
      (site .off .bound).headUnrecorded (aWrite 0x10800#36) ∧
      (site .active .off).headUnrecorded (aWrite 0x20FFF#36) :=
  ⟨⟨classified (by decide +kernel), .inl rfl⟩, ⟨classified (by decide +kernel), .inr (.inl (by decide +kernel))⟩,
    ⟨classified (by decide +kernel), .inr (.inr ⟨_, rfl, .inl rfl⟩)⟩,
    ⟨classified (by decide +kernel), .inr (.inr ⟨_, rfl, .inr (.inl ⟨rfl, .inl rfl⟩)⟩)⟩,
    ⟨classified (by decide +kernel), .inr (.inr ⟨_, rfl, .inr (.inl ⟨rfl, .inr rfl⟩)⟩)⟩,
    ⟨classified (by decide +kernel), .inr (.inr ⟨_, rfl, .inr (.inr (.inl ⟨rfl, rfl⟩))⟩)⟩,
    ⟨classified (by decide +kernel), .inr (.inr ⟨_, rfl, .inr (.inr (.inr ⟨rfl, rfl⟩))⟩)⟩⟩

/-- An initiator job in READING over the last granule's line of stream 1's extent. -/
def auditing (s : State) : State :=
  { s with audit := { s.audit with initiator := { s.audit.initiator with
      state := .reading, stream := 1, session := 5#8, firstLine := 63, lineCount := 1, nextLine := 63, tag := 7#8
      crc := crcInit } } }

theorem test_witness_Notices :
    (∃ c, (reading (site .resync .bound)).engine.state = .reading c ∧ c.lineAddr = 0x10000#36) ∧
      (auditing (site .active .bound)).audit.initiator.state = .reading ∧
      ((auditing (site .active .bound)).stream 1).cfg.extentBase.toNat + 64 * 63 ≤ (0x10FC0#36 : Addr).toNat ∧
      (0x10FC0#36 : Addr).toNat < ((auditing (site .active .bound)).stream 1).cfg.extentBase.toNat + 64 * (63 + 1) ∧
      ¬((0x11000#36 : Addr).toNat <
        ((auditing (site .active .bound)).stream 1).cfg.extentBase.toNat + 64 * (63 + 1)) ∧
      (site .active .bound).audit.initiator.state ≠ .reading :=
  ⟨⟨_, rfl, rfl⟩, rfl, by decide +kernel, by decide +kernel, by decide +kernel, by decide +kernel⟩

theorem test_witness_Tracked :
    (site .opening .bound).headInWindow (aWrite 0x10000#36) .mirror 1 ∧
      (site .degraded .bound).headInWindow (aWrite 0x107FF#36) .mirror 1 ∧
      (let s := setPolicy (noSlot (site .active .bound)) .track
       s.headPlaced (aWrite 0x10000#36) 1 ∧ (s.stream 1).mergeTarget ((s.stream 1).cfg.lineIndex 0x10000#36) = none ∧
         s.slotAllowed 1 = false ∧ (s.stream 1).cfg.policy = .track ∧ ¬ s.auditing 1) ∧
      (let s := setPolicy (noSlot (site .resync .bound)) .track
       s.headPlaced (aWrite 0x10000#36) 1 ∧ (s.stream 1).mergeTarget ((s.stream 1).cfg.lineIndex 0x10000#36) = none ∧
         s.slotAllowed 1 = false ∧ (s.stream 1).cfg.policy = .track) :=
  ⟨inWindow (by decide +kernel), inWindow (by decide +kernel),
    ⟨.inl ⟨inWindow (by decide +kernel), .inr rfl⟩, by decide +kernel, by decide +kernel, rfl, fun h => h.1 rfl⟩,
    ⟨.inl ⟨inWindow (by decide +kernel), .inl rfl⟩, by decide +kernel, by decide +kernel, rfl⟩⟩

theorem test_witness_Merged :
    let s := withRecords (site .active .bound) [aRecord 0 .captured 15]
    s.headPlaced (aWrite 0x10040#36) 1 ∧ (s.stream 1).sendList.getLast? = some (aRecord 0 .captured 15) ∧
      (aRecord 0 .captured 15).state ≠ .sent ∧ (aRecord 0 .captured 15).kind ≠ .void ∧
      (aRecord 0 .captured 15).line = (s.stream 1).cfg.lineIndex 0x10040#36 ∧
      (aRecord 0 .captured 15).discard = false ∧ (aRecord 0 .captured 15).pendingWrites < 16 :=
  ⟨.inl ⟨inWindow (by decide +kernel), .inr rfl⟩, by decide +kernel, by decide, by decide, by decide +kernel, rfl,
    by decide⟩

theorem test_witness_Recorded :
    let low := { State.reset.global with poolLowThreshold := 511 }
    let s := { site .active .bound with global := low }
    let v := { withRecords (site .active .bound) [aRecord 0 .ready 0] with global := low }
    (s.headPlaced (aWrite 0x10800#36) 1 ∧ (s.stream 1).mergeTarget ((s.stream 1).cfg.lineIndex 0x10800#36) = none ∧
      s.slotAllowed 1 = true ∧ s.pool.freeList = 0 :: (List.range 512).tail ∧
      ¬((List.range 512).tail.length < s.global.poolLowThreshold)) ∧
      (v.headPlaced (aWrite 0x10000#36) 1 ∧ (v.stream 1).mergeTarget ((v.stream 1).cfg.lineIndex 0x10000#36) = none ∧
        v.slotAllowed 1 = true ∧ v.pool.freeList = 1 :: (List.range 512).drop 2 ∧ v.pool.lowArmed = true ∧
        ((List.range 512).drop 2).length < v.global.poolLowThreshold) :=
  ⟨⟨.inr ⟨inWindow (by decide +kernel), rfl, by decide +kernel⟩, by decide +kernel, by decide +kernel,
      by decide +kernel, by decide +kernel⟩,
    .inl ⟨inWindow (by decide +kernel), .inr rfl⟩, by decide +kernel, by decide +kernel, by decide +kernel, rfl,
    by decide +kernel⟩

/-- A head of stream 1 waits for a slot. -/
def waitingForSlot (s : State) : State :=
  { s with sp := { s.sp with channel := [aWrite 0x10000#36], slotWait := some { stream := 1, expiry := 100#32 } } }

theorem test_witness_HeadWaitsForSlot :
    (let s := noSlot (site .active .bound)
     s.headLacksSlot (aWrite 0x10000#36) 1 ∧ s.sp.slotWait = none) ∧
      (let s := waitingForSlot (noSlot (site .active .bound))
       s.live ∧ s.settled ∧ s.sp.channel = [aWrite 0x10000#36] ∧ s.noChannel.headLacksSlot (aWrite 0x10000#36) 1 ∧
         s.sp.slotWait = some { stream := 1, expiry := 100#32 } ∧ (aWrite 0x10000#36).isWrite = true ∧
         (s.stream 1).state = .active) ∧
      ((0 : StreamId) ≠ 1 ∧ (presenting [aWrite 0x10000#36] (noSlot (site .active .bound))).sp.slotWait = none) ∧
      ((waitingForSlot (noSlot (site .resync .bound))).stream 1).state = .resync ∧
      (auditing (waitingForSlot (noSlot (site .active .bound)))).auditing 1 :=
  ⟨⟨⟨.inl ⟨inWindow (by decide +kernel), .inr rfl⟩, by decide +kernel, by decide +kernel, rfl⟩, rfl⟩,
    ⟨live_of _ (by decide +kernel), settled_of _ (by decide +kernel), rfl,
      ⟨.inl ⟨inWindow (by decide +kernel), .inr rfl⟩, by decide +kernel, by decide +kernel, rfl⟩, rfl, rfl, rfl⟩,
    ⟨by decide, rfl⟩, rfl, by decide, rfl⟩

/-- Three hold slots are occupied, the last is free. -/
def threeHolds (s : State) : State :=
  { s with holds := #v[some (aHeld 8 0x10800#36 1), some (aHeld 9 0x10840#36 2), some (aHeld 10 0x10880#36 3), none] }

theorem test_witness_GatedHeld :
    (let s := withRecords (site .active .bound) [aRecord 0 .sent 0]
     s.headInWindow (aWrite 0x10800#36) .gated 1 ∧
       ¬(s.stream 1).markReached (s.stream 1).gateMark = true ∧ s.hold 0 = none ∧ ∀ j, j < 0 → s.hold j ≠ none) ∧
      (let s := threeHolds (reading (site .resync .bound))
       s.headInWindow (aWrite 0x10FFF#36) .gated 1 ∧ (s.stream 1).state = .resync ∧ s.hold 3 = none ∧
         ∀ j, j < 3 → s.hold j ≠ none) :=
  ⟨⟨inWindow (by decide +kernel), by decide +kernel, rfl, by decide +kernel⟩,
    inWindow (by decide +kernel), rfl, rfl, by decide +kernel⟩

theorem test_witness_Refused :
    (site .opening .bound).headInWindow (aWrite 0x10800#36) .gated 1 ∧
      (site .degraded .bound).headInWindow (aWrite 0x10800#36) .gated 1 ∧
      (site .closing .bound).headInWindow (aWrite 0x10FFF#36) .gated 1 ∧
      (site .active .listen).headInWindow (aWrite 0x20000#36) .guarded 2 ∧
      (site .active .bound).headInWindow (aWrite 0x20FFF#36) .guarded 2 :=
  ⟨inWindow (by decide +kernel), inWindow (by decide +kernel), inWindow (by decide +kernel),
    inWindow (by decide +kernel), inWindow (by decide +kernel)⟩

theorem test_witness_ResponseAndDeadlines :
    ((answered3 State.reset).resetAsserted = false ∧
        (answered3 State.reset).sp.responses = [{ tag := 3, status := .okay, data := [] }]) ∧
      (let s := withRecords (site .active .bound) [{ aRecord 0 .captured 1 with deadline := some 20#32 }]
       s.live ∧ ∃ r ∈ (s.stream 1).sendList, r.deadline ≠ none) ∧
      (fullHolds (site .active .bound)).live ∧
        (fullHolds (site .active .bound)).hold 3 = some (aHeld 11 0x108C0#36 4) :=
  ⟨⟨rfl, rfl⟩, ⟨live_of _ (by decide +kernel), by decide +kernel⟩, live_of _ (by decide +kernel), rfl⟩

/-! ### Witnesses: the Memory Port -/

/-- One request waits in the through queue. -/
def queued (r : SpRequest) (u : WriteUse) (s : State) : State := s.joinThrough r u

/-- The Resync Engine waits for stream 1 at line 0. -/
def waitingEngine (s : State) : State :=
  { s.modStream 1 (fun st => { st with copyPos := some { granule := 0, line := 0 } }) with
    engine := { state := .waiting 1, pointer := 1 } }

theorem test_witness_ThroughGrant :
    (let s := queued (aWrite 0x10000#36) .plain (waitingEngine (site .resync .bound))
     s.mp.throughQueue = [{ req := aWrite 0x10000#36, use := .plain }] ∧ s.mp.lastSide = .internal ∧
       s.resetAsserted = false ∧ s.softReset = false ∧ s.engine.state = .waiting 1 ∧
       State.copyLinePending { s with mp := { s.mp with throughQueue := [] } } 1 = false) ∧
      (let s := queued (aWrite 0x10000#36) .plain (queued (aRead 0#36 64) .plain (waitingEngine (site .resync .bound)))
       s.engine.state = .waiting 1 ∧ s.internalWaits = false ∧
         State.copyLinePending { s with mp := { s.mp with throughQueue := s.mp.throughQueue.tail } } 1 = true) ∧
      (∀ i, (site .resync .bound).engine.state ≠ .waiting i) ∧
      State.reset.mp.throughQueue = [] ∧ State.reset.internalWaits = false :=
  ⟨⟨rfl, rfl, rfl, rfl, rfl, by decide +kernel⟩, ⟨rfl, by decide +kernel, by decide +kernel⟩, by decide +kernel, rfl,
    by decide +kernel⟩

/-- An entry of stream 2's session in the Apply Queue. -/
def anEntry (p : Progress) : ApplyEntry :=
  { stream := 2, session := 9#8, seq := 0#16, kind := .data, line := 63#20, payload := [(63, 7#8)], progress := p,
    stale := false }

def withEntries (s : State) (l : List ApplyEntry) : State := { s with apply := { s.apply with queue := l } }

theorem test_witness_ApplyGrant :
    (let s := withEntries (site .active .bound) [anEntry .waiting]
     s.live ∧ s.mp.throughQueue = [] ∧ s.apply.queue.find? (fun e => e.progress == .waiting) = some (anEntry .waiting) ∧
       (anEntry .waiting).stale = false ∧ (s.stream 2).state = .bound ∧ (s.stream 2).session = 9#8 ∧
       (anEntry .waiting).kind ≠ .void ∧ s.applyOutstanding < 4 ∧ 16 ≤ (16 : MpTag).val ∧
       (∀ m ∈ s.mp.outstanding, m.tag ≠ 16) ∧
       ∀ x : MpTag, 16 ≤ x.val → x < 16 → ∃ m ∈ s.mp.outstanding, m.tag = x) ∧
      (let o := [16, 17, 18].map (fun t : MpTag => { lineRead t 0#36 .apply with owner := .apply })
       let s := { withEntries (site .active .bound)
           [anEntry (.issued 16), anEntry (.issued 17), anEntry (.issued 18), anEntry .waiting] with
         mp := { State.reset.mp with outstanding := o, lastSide := .through } }
       s.applyOutstanding = 3 ∧ (∀ m ∈ s.mp.outstanding, m.tag ≠ 19) ∧
         ∀ x : MpTag, 16 ≤ x.val → x < 19 → ∃ m ∈ s.mp.outstanding, m.tag = x) :=
  ⟨⟨live_of _ (by decide +kernel), rfl, by decide +kernel, rfl, rfl, rfl, by decide, by decide +kernel, by decide,
      by decide +kernel, by decide +kernel⟩, by decide +kernel, by decide +kernel, by decide +kernel⟩

/-- The copy read of line 0 of stream 1 is requested. -/
def requestedCopy (s : State) : State :=
  { waitingEngine s with engine := { state := .requested 1 5#8, pointer := 7 } }

/-- The responder reads for stream 2. -/
def responding (s : State) : State :=
  { s with audit := { s.audit with responder := { s.audit.responder with
      state := .reading, stream := 2, session := 9#8, origin := 3, firstLine := 62, lineCount := 2, nextLine := 62
      tag := 5#8, crc := crcInit } } }

theorem test_witness_ReaderGrants :
    (let s := requestedCopy (site .resync .bound)
     s.live ∧ s.mp.throughQueue = [] ∧ s.applyRequest = false ∧
       (readersAfter s.mp.readerPointer).find? s.readerStands = some .copy ∧
       s.engine.state = .requested 1 (s.stream 1).session ∧ (s.stream 1).copyPos = some { granule := 0, line := 0 } ∧
       (s.stream 1).state = .resync ∧ s.linePending 0x10000#36 = false) ∧
      (let s := { queued (aWrite 0x1003F#36) .plain (requestedCopy (site .resync .bound)) with
         mp := { State.reset.mp with throughQueue := [{ req := aWrite 0x1003F#36, use := .plain }]
                                     lastSide := .through } }
       s.mp.lastSide = .through ∧ s.linePending 0x10000#36 = true) ∧
      (readersAfter .responder).find? (auditing (site .active .bound)).readerStands = some .initiator ∧
      (readersAfter .responder).find? (responding (site .active .bound)).readerStands = some .responder :=
  ⟨⟨live_of _ (by decide +kernel), rfl, by decide +kernel, by decide +kernel, rfl, rfl, rfl, by decide +kernel⟩,
    ⟨rfl, by decide +kernel⟩, by decide +kernel, by decide +kernel⟩

/-- One MP request of an owner is outstanding. -/
def outstandingAs (t : MpTag) (op : BusOp) (o : MpOwner) (s : State) : State :=
  { s with mp := { s.mp with outstanding := [{ tag := t, addr := 0x10040#36, op := op, owner := o }] } }

theorem test_witness_ThroughResponse :
    (∀ m ∈ State.reset.mp.outstanding, m.tag ≠ 3) ∧
      (outstandingAs 0 (.read 64) (.through .plain) State.reset).mp.outstanding.find? (fun m => m.tag == 0) =
        some { tag := 0, addr := 0x10040#36, op := .read 64, owner := .through .plain } ∧
      (outstandingAs 15 (.write []) (.through (.tracked 1 1#20)) State.reset).mp.outstanding.find?
          (fun m => m.tag == 15) =
        some { tag := 15, addr := 0x10040#36, op := .write [], owner := .through (.tracked 1 1#20) } := by
  decide +kernel

/-- A write bound to stream 1's record of slot 0 is outstanding. -/
def boundWrite (y : Record) (a : StreamState) : State :=
  outstandingAs 3 (.write [{ data := 7#8, strobe := true }]) (.through (.bound 1 0)) (withRecords (site a .bound) [y])

theorem test_witness_LocalCompletion :
    ((boundWrite (aRecord 0 .captured 1) .active).resetAsserted = false ∧
        ((boundWrite (aRecord 0 .captured 1) .active).stream 1).sendList.find? (fun x => x.slot == 0) =
          some (aRecord 0 .captured 1)) ∧
      (let y := { aRecord 0 .captured 2 with discard := true }
       ((boundWrite y .closing).stream 1).sendList.find? (fun x => x.slot == 0) = some y ∧ 1 < y.pendingWrites ∧
         (boundWrite y .closing).poolPartitioned) ∧
      (let y := { aRecord 0 .captured 1 with discard := true }
       ((boundWrite y .closing).stream 1).sendList.find? (fun x => x.slot == 0) = some y ∧ y.pendingWrites = 1) ∧
      ((boundWrite (aRecord 0 .captured 1) .active).stream 1).state = .active ∧
      ¬ (boundWrite (aRecord 0 .captured 1) .active).auditing 1 ∧
      (auditing (boundWrite { aRecord 0 .captured 1 with discard := true } .active)).auditing 1 :=
  ⟨⟨rfl, by decide +kernel⟩, ⟨by decide +kernel, by decide, partition_of _ (by decide +kernel)⟩,
    ⟨by decide +kernel, rfl⟩, rfl, fun h => h.1 rfl, by decide, rfl⟩

theorem test_witness_ApplyCompletion :
    (outstandingAs 16 (.write []) .apply (withEntries (site .active .bound) [anEntry (.issued 16)])).mp.outstanding.find?
        (fun m => m.tag == 16) = some { tag := 16, addr := 0x10040#36, op := .write [], owner := .apply } ∧
      (linkedUp (site .active .bound)).link.state = .up ∧ (anEntry (.done .okay)).stale = false ∧
      ((site .active .bound).stream 2).state = .bound ∧ ((site .active .bound).stream 2).session = 9#8 ∧
      { anEntry (.done .okay) with stale := true }.stale = true ∧ ((site .active .listen).stream 2).state ≠ .bound := by
  decide +kernel

/-- The responder is armed for stream 2 with the mark of the entry of seq 0. -/
def armed (s : State) : State :=
  { s with audit := { s.audit with responder := { s.audit.responder with
      state := .armed, stream := 2, session := 9#8, origin := 3, firstLine := 0, lineCount := 64, mark := 0#16 } } }

theorem test_witness_Retirement :
    let s := armed (withEntries (linkedUp (site .active .bound)) [anEntry (.done .okay)])
    s.live ∧ s.link.state = .up ∧ s.passEntries s.apply.queue = [anEntry (.done .okay)] ∧
      (anEntry (.done .okay)).progress = .done .okay ∧ s.audit.responder.state = .armed ∧
      s.audit.responder.stream = 2 ∧ s.audit.responder.session = (anEntry (.done .okay)).session ∧
      s.audit.responder.mark = (anEntry (.done .okay)).seq ∧ (settle s).audit.responder.state = .reading :=
  ⟨live_of _ (by decide), rfl, by decide +kernel, rfl, rfl, rfl, rfl, rfl, by decide +kernel⟩

/-- The copy read of stream 1 is outstanding at a copy position. -/
def copying (p : CopyPos) (d : List Nat) (a : StreamState) : State :=
  (reading (site a .bound)).modStream 1 (fun st => { st with copyPos := some p, dirty := d })

theorem test_witness_CopyRead :
    (let s := copying { granule := 63, line := 0 } [] .resync
     s.live ∧ s.mp.outstanding.find? (fun m => m.tag == 20) = some (lineRead 20 0x10000#36 .copy) ∧
       (∃ r, s.engine.state = .reading r ∧ r.stream = 1 ∧ (s.stream 1).session = r.session ∧ r.spoiled = false) ∧
       (s.stream 1).state = .resync ∧ s.slotAllowed 1 = true ∧ s.pool.freeList = 0 :: (List.range 512).tail ∧
       0 + 1 = (s.stream 1).cfg.linesPerGranule ∧ (s.stream 1).dirty = [] ∧
       ∀ k, s.hold k = none) ∧
      (let s := copying { granule := 0, line := 0 } [5] .resync
       (s.stream 1).dirty ≠ [] ∧ 0 < (s.stream 1).cfg.linesPerGranule) ∧
      ((copying { granule := 0, line := 0 } [5] .closing).stream 1).state ≠ .resync ∧
      (noSlot (copying { granule := 0, line := 0 } [5] .resync)).slotAllowed 1 = false ∧
      (let s := fullHolds (copying { granule := 63, line := 0 } [] .resync)
       s.hold 0 = some (aHeld 8 0x10800#36 1) ∧ s.heldSlots 1 = [0, 1, 2, 3] ∧
         seqAtOrAfter (s.stream 1).ackedSeq (s.stream 1).nextSeq = false) :=
  ⟨⟨live_of _ (by decide +kernel), by decide +kernel, ⟨_, rfl, rfl, rfl, rfl⟩, rfl, by decide +kernel,
      by decide +kernel, by decide +kernel, rfl, by decide +kernel⟩, ⟨by decide +kernel, by decide +kernel⟩, by decide +kernel,
    by decide +kernel, rfl, by decide +kernel, by decide +kernel⟩

/-- At entry to ACTIVE the held writes take the mark of the new COPY record and stay held. -/
theorem test_clean_raises_marks :
    look (.mpResponse 20 .okay lineOf7) (fullHolds (copying { granule := 63, line := 0 } [] .resync))
        (fun t => ((t.stream 1).state, (t.hold 0).bind HeldWrite.mark, (t.hold 3).bind HeldWrite.mark)) =
      some (.active, some 0#16, some 0#16) := by decide +kernel

/-- The initiator's read of its line is outstanding. -/
def auditRead (o : ReadOut) (last disturbed : Bool) : State :=
  let s := auditing (site .active .bound)
  { s with
    audit := { s.audit with initiator := { s.audit.initiator with
      readOut := o, disturbed := disturbed, firstLine := 62, lineCount := 2, nextLine := if last then 63 else 62 } }
    mp := { s.mp with outstanding := [lineRead 21 0x10FC0#36 .initiator] } }

/-- The responder's read of its line is outstanding. -/
def responderRead (o : ReadOut) (last disturbed : Bool) : State :=
  let s := responding (site .active .bound)
  { s with
    audit := { s.audit with responder := { s.audit.responder with
      readOut := o, disturbed := disturbed, nextLine := if last then 63 else 62 } }
    mp := { s.mp with outstanding := [lineRead 22 0x20FC0#36 .responder] } }

theorem test_witness_AuditRead :
    ((auditRead .current true false).mp.outstanding.find? (fun m => m.tag == 21) =
        some (lineRead 21 0x10FC0#36 .initiator) ∧ (auditRead .current true false).softReset = false ∧
      (auditRead .ended true false).audit.initiator.readOut ≠ .current ∧
      (auditRead .current true false).audit.initiator.readOut = .current ∧
      62 + 2 ≤ (auditRead .current true false).audit.initiator.nextLine + 1 ∧
      (auditRead .current false false).audit.initiator.nextLine + 1 < 62 + 2 ∧
      (auditRead .current true true).audit.initiator.disturbed = true) ∧
      (responderRead .current true false).mp.outstanding.find? (fun m => m.tag == 22) =
        some (lineRead 22 0x20FC0#36 .responder) ∧
      (responderRead .ended true false).audit.responder.readOut ≠ .current ∧
      (responderRead .current true false).audit.responder.readOut = .current ∧
      62 + 2 ≤ (responderRead .current true false).audit.responder.nextLine + 1 ∧
      (responderRead .current false false).audit.responder.nextLine + 1 < 62 + 2 ∧
      (responderRead .current true true).audit.responder.disturbed = true := by
  decide +kernel

/-! ### Witnesses: the link transmit arbiter -/

/-- The link is in TRAINING with its timers running and a HELLO requested. -/
def training (s : State) : State := s.enterTraining

def withRequests (c2 : List AckNakReq) (c3 : List HandshakeReq) (c4 : List AuditReq) (s : State) : State :=
  let u := linkedUp s
  { u with link := { u.link with class2 := c2, class3 := c3, class4 := c4 } }

theorem grants_of (s : State)
    (h : (!(s.resetAsserted || s.softReset) && (s.link.state == .up) && !s.link.helloRequest && s.link.confirmed) = true) :
    s.grantsClasses := by
  simpa [State.grantsClasses, State.live, and_assoc] using h

theorem test_witness_HelloGranted :
    (training State.reset).live ∧ (training State.reset).link.state = .training ∧
      (training State.reset).link.helloRequest = true ∧
      (State.requestHello (linkedUp State.reset)).live ∧ (State.requestHello (linkedUp State.reset)).link.state = .up ∧
      (State.requestHello (linkedUp State.reset)).link.helloRequest = true ∧ State.reset.link.state = .off :=
  ⟨live_of _ (by decide +kernel), rfl, rfl, live_of _ (by decide +kernel), rfl, rfl, rfl⟩

theorem test_witness_ClassGrants :
    ((withRequests [.ack 2] [] [] (site .active .bound)).grantsClasses ∧
        (withRequests [.ack 2] [] [] (site .active .bound)).link.class2 = [.ack 2]) ∧
      (let s := (withRequests [.nak 2] [] [] (site .active .bound)).modStream 2 (fun st =>
         { st with nakSlot := some { target := 3, session := 9#8, body := .gap 0#16 } })
       s.grantsClasses ∧ s.link.class2 = [.nak 2] ∧ (s.stream 2).nakSlot.isSome = true) ∧
      (let s := withRequests [] [.openDue 1, .closeDue 1] [] (site .active .bound)
       s.grantsClasses ∧ s.link.class2 = [] ∧ s.link.class3 = [.openDue 1, .closeDue 1]) ∧
      (let s := withRequests [] [] [.dgq, .dgrResult] (site .active .bound)
       s.grantsClasses ∧ s.link.class2 = [] ∧ s.link.class3 = [] ∧ s.link.class4 = [.dgq, .dgrResult]) ∧
      (let s := withRequests [] [] [.dgrResult] ((responding (site .active .bound)).endResponder .ok .none 1#32)
       s.grantsClasses ∧ s.audit.resultSlot.isSome = true) :=
  ⟨⟨grants_of _ (by decide +kernel), rfl⟩, ⟨grants_of _ (by decide +kernel), rfl, rfl⟩,
    ⟨grants_of _ (by decide +kernel), rfl, rfl⟩, ⟨grants_of _ (by decide +kernel), rfl, rfl, rfl⟩,
    grants_of _ (by decide +kernel), rfl⟩

theorem test_witness_RecGranted :
    (let s := linkedUp (withRecords (site .active .bound) [aRecord 0 .ready 0])
     s.grantsClasses ∧ s.link.class2 = [] ∧ s.link.class3 = [] ∧ s.link.class4 = [] ∧ 0 < s.link.credits ∧
       (cyclicAfter s.link.recPointer).find? (fun j => (s.stream j).candidate.isSome) = some 1 ∧
       (s.stream 1).cfg.direction = .send ∧ (s.stream 1).cursor = some 0#16 ∧
       (s.stream 1).sendList.find? (fun x => x.seq == 0#16 && !x.discard) = some (aRecord 0 .ready 0)) ∧
      (∀ i, ((linkedUp (site .active .bound)).stream i).candidate = none) ∧
      ((linkedUp (withRecords (site .closing .bound) [aRecord 0 .sent 0])).stream 1).candidate =
        some (aRecord 0 .sent 0) :=
  ⟨⟨grants_of _ (by decide +kernel), rfl, rfl, rfl, by decide +kernel, by decide +kernel, rfl, rfl, by decide +kernel⟩,
    by decide +kernel, by decide +kernel⟩

/-! ### Witnesses: arriving frames -/

def aHello (up heard : Bool) (count : Byte) : HelloFrame :=
  { number := 6#8, senderUp := up, heard := heard, count := count, identity := 0x06120001#32 }

theorem accepts_of (s : State) (n : Byte)
    (h : (!(s.resetAsserted || s.softReset) && (s.link.state == .up) && (n == s.link.rxNumber)) = true) :
    s.accepts n := by
  simpa [State.accepts, State.live, and_assoc] using h

theorem test_witness_NotAccepted :
    (State.reset.live ∧ State.reset.link.state ≠ .up) ∧
      ((linkedUp State.reset).live ∧ (linkedUp State.reset).link.state = .up ∧
        (Frame.close { number := 7#8, target := 2, origin := 3, session := 9#8 }).number ≠
          (linkedUp State.reset).link.rxNumber) ∧
      (training State.reset).link.state = .training ∧ 11 < (12#8 : Byte).toNat :=
  ⟨⟨live_of _ (by decide), by decide⟩, ⟨live_of _ (by decide), rfl, by decide⟩, rfl, by decide⟩

theorem test_witness_HelloInTraining :
    let t := training State.reset
    let h := { t with link := { t.link with heardSent := true, lastAdvert := 32 } }
    let d := { State.reset with link := { State.reset.link with state := .down } }
    (t.live ∧ (aHello false true 33#8).senderUp = false ∧ 32 < (aHello false true 33#8).count.toNat) ∧
      (t.link.state = .training ∧ t.link.heardSent = false ∧ (aHello false true 32#8).count.toNat ≤ 32) ∧
      (h.live ∧ h.link.state = .training ∧ h.link.heardSent = true ∧ (aHello true true 1#8).heard = true ∧
        (aHello true true 1#8).count ≠ 0#8) ∧ (d.live ∧ d.link.state = .down) :=
  ⟨⟨live_of _ (by decide +kernel), rfl, by decide⟩, ⟨rfl, rfl, by decide⟩,
    ⟨live_of _ (by decide +kernel), rfl, rfl, rfl, by decide⟩, live_of _ (by decide +kernel), rfl⟩

theorem test_witness_HelloInUp :
    let s := linkedUp State.reset
    let n := { s with link := { s.link with confirmed := false } }
    (s.live ∧ s.link.state = .up ∧ (aHello true true 2#8).number = s.link.rxNumber ∧ s.creditFits 2#8 ∧
        ¬ s.creditFits 3#8) ∧
      (n.live ∧ n.link.state = .up ∧ n.link.confirmed = false ∧ (aHello false true 32#8).heard = true) ∧
      s.link.confirmed = true :=
  ⟨⟨live_of _ (by decide), rfl, rfl, by unfold State.creditFits; decide, by unfold State.creditFits; decide⟩,
    ⟨live_of _ (by decide), rfl, rfl, rfl⟩, rfl⟩

def aRec (ses : Session) (q : Seq) (line : LineIndex) : RecFrame :=
  { number := 6#8, target := 2, origin := 3, session := ses, seq := q, kind := 0#8, line := line, mask := 1#64,
    data := lineOf7 }

theorem test_witness_RecArrival :
    let s := linkedUp (site .active .bound)
    let full := withEntries s (List.replicate 32 (anEntry (.issued 16)))
    let st := s.stream 2
    (s.accepts (aRec 9#8 0#16 63#20).number ∧ full.accepts 6#8 ∧ 32 ≤ full.apply.queue.length) ∧
      (s.apply.queue.length < 32 ∧ (aRec 9#8 0#16 63#20).kind = 0#8 ∧ (aRec 9#8 0#16 63#20).mask ≠ 0#64) ∧
      (st.cfg.direction = .receive ∧ st.state = .bound ∧ st.session = 9#8 ∧ st.cfg.peer = 3 ∧ st.acceptSeq = 0#16) ∧
      ((63#20 : LineIndex).toNat < 64 * 2 ^ st.cfg.sizeCode ∧ 64 * 2 ^ st.cfg.sizeCode ≤ (64#20 : LineIndex).toNat) ∧
      (seqBefore 65535#16 st.acceptSeq = true ∧ seqAfter 32767#16 st.acceptSeq = true ∧ st.nakOutstanding = false) ∧
      ((linkedUp (site .active .listen)).stream 2).state ≠ .bound :=
  ⟨⟨accepts_of _ _ (by decide +kernel), accepts_of _ _ (by decide +kernel), by decide +kernel⟩,
    ⟨by decide +kernel, rfl, by decide +kernel⟩, ⟨rfl, rfl, rfl, rfl, rfl⟩, ⟨by decide +kernel, by decide +kernel⟩,
    ⟨by decide +kernel, by decide +kernel, rfl⟩, by decide +kernel⟩

/-- Stream 1 has sent these records and nothing is acknowledged. -/
def sentUp (a : StreamState) (l : List Record) : State :=
  (linkedUp (withRecords (site a .bound) l)).modStream 1 (fun st => { st with sentSeq := st.nextSeq - 1 })

theorem test_witness_AckNak :
    let s := sentUp .active [aRecord 0 .sent 0, aRecord 1 .sent 0]
    let st := s.stream 1
    (s.accepts 6#8 ∧ s.creditFits 2#8 ∧ ¬ s.creditFits 3#8 ∧ st.cfg.direction = .send ∧ st.state = .active ∧
        st.session = 5#8) ∧
      (seqAfter 0#16 st.ackedSeq = true ∧ seqAfter 1#16 st.sentSeq = false ∧ seqAfter 2#16 st.sentSeq = true) ∧
      (∀ k, s.hold k = none) ∧ ((sentUp .closing [aRecord 0 .sent 0]).stream 1).state = .closing ∧
      (st.cursor = some 0#16 ∧ seqAfter 0#16 1#16 = false) ∧ (st.retryCount + 1 < st.cfg.retryLimit) ∧
      (let v := s.modStream 1 (fun x => { x with cursor := none, retryCount := 3 })
       (v.stream 1).cursor = none ∧ (v.stream 1).cfg.retryLimit ≤ (v.stream 1).retryCount + 1) :=
  ⟨⟨accepts_of _ _ (by decide +kernel), by unfold State.creditFits; decide +kernel,
      by unfold State.creditFits; decide +kernel, rfl, rfl, rfl⟩,
    ⟨by decide +kernel, by decide +kernel, by decide +kernel⟩, by decide +kernel, rfl, ⟨rfl, by decide +kernel⟩,
    by decide +kernel, rfl, by decide +kernel⟩

theorem test_witness_HeldWriteReleased :
    let s := sentUp .active [aRecord 0 .sent 0, aRecord 1 .sent 0]
    let w := { aHeld 8 0x10800#36 1 with mark := some 1#16 }
    let v := { s with holds := #v[none, none, none, some w] }
    let st := v.stream 1
    (v.accepts 6#8 ∧ v.creditFits 0#8 ∧ v.hold 3 = some w ∧ (∀ j, j ≠ 3 → v.hold j = none) ∧ w.stream = 1) ∧
      (st.state = .active ∧ w.session = st.session ∧ w.mark = some 1#16 ∧ seqAtOrAfter 1#16 1#16 = true ∧
        st.sendList.length ≤ (1#16 - st.ackedSeq).toNat ∧ st.sendList ≠ [] ∧ 0 < st.cfg.limit ∧ 0 < st.cfg.reserve) ∧
      seqAtOrAfter 0#16 1#16 = false ∧ ((sentUp .resync [aRecord 0 .sent 0]).stream 1).state = .resync ∧
      (let u := fullHolds (sentUp .active [aRecord 0 .sent 0])
       u.accepts 6#8 ∧ u.heldSlots 1 = [0, 1, 2, 3] ∧ u.releaseHolds (aHeld 8 0x10800#36 1)) :=
  ⟨⟨accepts_of _ _ (by decide +kernel), by unfold State.creditFits; decide +kernel, rfl, by decide +kernel, rfl⟩,
    ⟨rfl, rfl, rfl, by decide, by decide +kernel, by decide +kernel, by decide +kernel, by decide +kernel⟩, by decide,
    rfl, accepts_of _ _ (by decide +kernel), by decide +kernel, rfl, rfl, .inl rfl⟩

/-- Four held writes at one ACK: the first is recorded in the one slot of the limit, the second, of the same line,
merges into it, the third finds neither and moves the stream to RESYNC, the fourth stays held. -/
theorem test_releases_in_order :
    look (.ackArrival { number := 6#8, target := 1, origin := 2, session := 5#8, seq := 0#16, credit := 0#8 })
        ({ (sentUp .active [aRecord 0 .sent 0]).modStream 1
            (fun st => { st with cfg := { st.cfg with limit := 1 } }) with
          holds := #v[some (aHeld 8 0x10800#36 1), some (aHeld 9 0x10801#36 2), some (aHeld 10 0x10880#36 3),
            some (aHeld 11 0x108C0#36 4)] })
        (fun t => ((t.stream 1).sendList.map (fun r => (r.payload.mask, r.pendingWrites)), (t.stream 1).state,
          t.mp.throughQueue.map (fun q => q.req.tag), (t.hold 3).map HeldWrite.order)) =
      some ([(3#64, 2)], .resync, [8, 9, 10], some 1) := by decide +kernel

theorem test_witness_Handshakes :
    let up := fun a b => linkedUp (site a b)
    ((up .active .bound).accepts 6#8 ∧ ((up .active .bound).stream 1).cfg.direction = .send ∧
        ((up .active .off).stream 2).state = .off ∧ ((up .active .bound).stream 2).cfg.direction = .receive) ∧
      (((up .active .listen).stream 2).cfg.peer = 3 ∧ ((up .active .listen).stream 2).cfg.sizeCode < (1#8 : Byte).toNat ∧
        (0#8 : Byte).toNat ≤ ((up .active .bound).stream 2).cfg.sizeCode ∧ ((up .active .bound).stream 2).session = 9#8) ∧
      (((up .opening .bound).stream 1).state = .opening ∧ ((up .opening .bound).stream 1).session = 5#8) ∧
      ((4#8 : Byte) = BitVec.ofNat 8 Reason.peer.code ∧ 4 < (5#8 : Byte).toNat) ∧
      (((up .closing .bound).modStream 1 (fun st => { st with closeSent := true })).stream 1).closeSent = true :=
  ⟨⟨accepts_of _ _ (by decide +kernel), rfl, rfl, rfl⟩, ⟨rfl, by decide +kernel, by decide +kernel, rfl⟩, ⟨rfl, rfl⟩,
    ⟨rfl, by decide⟩, rfl⟩

theorem test_witness_Digests :
    let s := linkedUp (site .active .bound)
    let st := s.stream 2
    let w := linkedUp { auditing (site .active .bound) with audit :=
      { (auditing (site .active .bound)).audit with
        initiator := { (auditing (site .active .bound)).audit.initiator with state := .waiting } } }
    (s.accepts 6#8 ∧ st.cfg.direction = .receive ∧ st.state = .bound ∧ st.session = 9#8 ∧ st.cfg.peer = 3) ∧
      (64 * 2 ^ st.cfg.sizeCode < (63#20 : BitVec 20).toNat + (2#21 : BitVec 21).toNat ∧
        ¬(64 * 2 ^ st.cfg.sizeCode < (63#20 : BitVec 20).toNat + (1#21 : BitVec 21).toNat)) ∧
      (s.audit.responder.state = .idle ∧ (responding s).audit.responder.state ≠ .idle) ∧
      (st.appliedSeq = 65535#16 ∧ seqAfter st.appliedSeq 65534#16 = true ∧ seqAfter st.appliedSeq 0#16 = false) ∧
      (w.accepts 6#8 ∧ w.audit.initiator.state = .waiting ∧ w.audit.initiator.tag = 7#8 ∧
        w.audit.initiator.stream = 1) ∧
      (dgrVerdict 2#8 8#8 = some (.refused, .expired) ∧ dgrVerdict 2#8 9#8 = none) :=
  ⟨⟨accepts_of _ _ (by decide +kernel), rfl, rfl, rfl, rfl⟩, ⟨by decide +kernel, by decide +kernel⟩,
    ⟨rfl, by decide +kernel⟩, ⟨rfl, by decide +kernel, by decide +kernel⟩,
    ⟨accepts_of _ _ (by decide +kernel), rfl, rfl, rfl⟩, rfl, rfl⟩

/-! ### Witnesses: timers, commands, control-space words -/

theorem test_witness_Timers :
    let t := training State.reset
    let u := (linkedUp State.reset).startSilence.startKeepalive
    let d := { State.reset with link := { State.reset.link with state := .down, downTimer := some 0#32 } }
    let v := (site .opening .bound).modStream 1 (fun st => { st with handshakeTimer := some 1#32, retryCount := 3 })
    let r := (site .active .bound).modStream 1 (fun st => { st with retransmitTimer := some 1#32 })
    let a := (site .active .bound).modStream 2 (fun st => { st with ackDelayTimer := some 1#32 })
    (t.live ∧ t.link.helloTimer ≠ none ∧ t.link.trainingTimer ≠ none) ∧
      (u.live ∧ u.link.keepaliveTimer ≠ none ∧ u.link.silenceTimer ≠ none) ∧ (d.live ∧ d.link.downTimer ≠ none) ∧
      (v.live ∧ (v.stream 1).handshakeTimer ≠ none ∧ (v.stream 1).cfg.retryLimit ≤ (v.stream 1).retryCount + 1) ∧
      (r.live ∧ (r.stream 1).retransmitTimer ≠ none ∧ (r.stream 1).retryCount + 1 < (r.stream 1).cfg.retryLimit) ∧
      (a.live ∧ (a.stream 2).ackDelayTimer ≠ none) ∧
      (let c := (site .closing .bound).modStream 1 (fun st =>
         { st with handshakeTimer := some 1#32, retransmitTimer := some 1#32, retryCount := 3 })
       c.live ∧ (c.stream 1).handshakeTimer ≠ none ∧ (c.stream 1).retransmitTimer ≠ none ∧
         (c.stream 1).state = .closing ∧ (c.stream 1).cfg.retryLimit ≤ (c.stream 1).retryCount + 1) :=
  ⟨⟨live_of _ (by decide +kernel), by decide +kernel, by decide +kernel⟩,
    ⟨live_of _ (by decide +kernel), by decide +kernel, by decide +kernel⟩,
    ⟨live_of _ (by decide +kernel), by decide +kernel⟩,
    ⟨live_of _ (by decide +kernel), by decide +kernel, by decide +kernel⟩,
    ⟨live_of _ (by decide +kernel), by decide +kernel, by decide +kernel⟩, ⟨live_of _ (by decide +kernel), by decide +kernel⟩,
    live_of _ (by decide +kernel), by decide +kernel, by decide +kernel, rfl, by decide +kernel⟩

theorem test_witness_AuditTimers :
    let s := site .active .bound
    let w := { s with audit := { s.audit with
      initiator := { s.audit.initiator with state := .waiting, timer := some 1#32 }
      responder := { s.audit.responder with state := .armed, timer := some 1#32 } } }
    w.live ∧ w.audit.initiator.state = .waiting ∧ w.audit.initiator.timer ≠ none ∧
      w.audit.responder.state = .armed ∧ w.audit.responder.timer ≠ none :=
  ⟨live_of _ (by decide +kernel), rfl, by decide, rfl, by decide⟩

theorem test_witness_Commands :
    let c := (site .off .off).stream 1
    ((site .off .off).writable ∧ c.cfg.direction = .send ∧ c.cfg.limit ≠ 0 ∧
        c.cfg.extentBase.toNat % (4096 * 2 ^ c.cfg.sizeCode) = 0 ∧ c.state = .off) ∧
      (((site .degraded .off).stream 1).state = .degraded ∧ ((site .resync .off).stream 1).state = .resync ∧
        ((site .active .off).stream 1).state = .active) ∧
      (((site .off .off).stream 2).cfg.direction = .receive ∧ ((site .off .off).stream 2).state = .off) ∧
      ((State.reset.stream 0).cfg.limit = 0 ∧ State.reset.link.state = .off ∧ (linkedUp State.reset).writable ∧
        (training State.reset).writable) ∧
      ((64#11 : BitVec 11) ≠ 0#11 ∧ (64#11 : BitVec 11).toNat ≤ 1024 ∧
        (0#10 : BitVec 10).toNat + (64#11 : BitVec 11).toNat ≤ ((site .active .bound).stream 1).cfg.granules ∧
        ((site .active .bound).stream 1).cfg.granules < (1#10 : BitVec 10).toNat + (64#11 : BitVec 11).toNat) ∧
      ((auditing (site .active .bound)).writable ∧ (auditing (site .active .bound)).auditing 1) ∧
      isCommandCode 7#8 = false :=
  ⟨⟨writable_of _ (by decide +kernel), rfl, by decide +kernel, by decide +kernel, rfl⟩, ⟨rfl, rfl, rfl⟩, ⟨rfl, rfl⟩,
    ⟨rfl, rfl, writable_of _ (by decide), writable_of _ (by decide +kernel)⟩,
    ⟨by decide, by decide, by decide +kernel, by decide +kernel⟩,
    ⟨writable_of _ (by decide +kernel), by decide +kernel, rfl⟩, by decide⟩

theorem test_witness_ControlWords :
    ((site .off .off).writable ∧ ((site .off .off).window 0).enable = true ∧
        ((site .off .off).window 15).enable = false ∧ (site .off .off).named 1 = true ∧
        State.reset.named 7 = false ∧ (State.reset.stream 7).state = .off) ∧
      (State.reset.portOpen ∧ State.reset.events.entries = []) ∧
      ((State.reset.put .linkUp none 3#20).portOpen ∧ (State.reset.put .linkUp none 3#20).events.entries ≠ []) ∧
      (State.badCommandByte State.reset).mgmt.spi.kind = .bad ∧
      ((0x341#16 : BitVec 16) ≠ 0x340#16 ∧ (0x341#16 : BitVec 16) ≠ 0x301#16 ∧ (0x341#16 : BitVec 16) ≠ 0x311#16) :=
  ⟨⟨writable_of _ (by decide +kernel), rfl, rfl, by decide +kernel, by decide +kernel, rfl⟩, ⟨⟨rfl, by decide⟩, rfl⟩,
    ⟨⟨rfl, by decide⟩, by decide⟩, rfl, by decide, by decide, by decide⟩

/-! ### Small checks: what one command does -/

theorem test_head_recorded :
    look (.headTaking (aWrite 0x10041#36)) (site .active .bound)
        (fun t => ((t.stream 1).sendList.map (fun r => (r.line, r.payload.mask, r.pendingWrites)), t.freeCount,
          t.mp.throughQueue.length)) = some ([(1#20, 2#64, 1)], 511, 1) := by decide +kernel

theorem test_head_crossing :
    look (.headTaking (aRead 0x1003F#36 2)) (site .active .bound) (fun t => (t.sp.responses, t.mp.throughQueue)) =
      some ([{ tag := 3, status := .error, data := [0#8, 0#8] }], []) := by decide +kernel

theorem test_spResponseDelivery :
    look .spResponseDelivery (answered3 State.reset) (fun t => (t.sp.responses, t.out.spResponse.map (fun r => r.tag))) =
      some ([], some 3) := by decide +kernel

theorem test_slotWaitTimerExpiry :
    look .slotWaitTimerExpiry (waitingForSlot (noSlot (site .active .bound)))
        (fun t => ((t.stream 1).state, t.sp.channel, t.mp.throughQueue.length)) = some (.resync, [], 1) := by
  decide +kernel

theorem test_combineDeadlineExpiry :
    look (.combineDeadlineExpiry 1) (withRecords (site .active .bound) [{ aRecord 0 .ready 0 with deadline := some 9#32 }])
        (fun t => (t.stream 1).sendList.map (fun r => r.deadline)) = some [none] := by decide +kernel

theorem test_holdDeadlineExpiry :
    look (.holdDeadlineExpiry 2) (fullHolds (site .active .bound))
        (fun t => (t.hold 2, t.sp.responses.map (fun r => (r.tag, r.status)), t.events.entries.map (fun e => e.code))) =
      some (none, [(10, .error)], [.gateTimeout]) := by decide +kernel

theorem test_mpGrant_alternates :
    look .mpGrant (withEntries (queued (aRead 0#36 64) .plain (site .active .bound)) [anEntry .waiting])
        (fun t => (t.mp.lastSide, t.mp.outstanding.map (fun m => m.tag), t.applyRequest)) =
      some (.through, [3], true) := by decide +kernel

/-- The lanes of a write. -/
def lanesOf : BusOp → List Lane
  | .write l => l
  | .read _ => []

theorem test_mpGrant_applyLanes :
    let s := withEntries (site .active .bound) [anEntry .waiting]
    look .mpGrant s (fun t => (t.choices, t.mp.outstanding.map (fun m => (m.tag, m.addr)))) =
        some (1, [(16, 0x20FC0#36)]) ∧
      look .mpGrant s (fun t => t.mp.outstanding.map (fun m => (lanesOf m.op).map (fun x => x.strobe))) =
        some [List.replicate 63 false ++ [true]] ∧
      look .mpGrant s (fun t => t.mp.outstanding.map (fun m => (lanesOf m.op).drop 63)) =
        some [[{ data := 7#8, strobe := true }]] := by decide +kernel

theorem test_mpResponse_read :
    look (.mpResponse 3 .okay lineOf7) (outstandingAs 3 (.read 2) (.through .plain) State.reset)
        (fun t => (t.mp.outstanding, t.sp.responses)) =
      some ([], [{ tag := 3, status := .okay, data := [7#8, 7#8] }]) := by decide +kernel

theorem test_mpResponse_memError :
    look (.mpResponse 3 .error lineOf7) (boundWrite (aRecord 0 .captured 1) .active)
        (fun t => ((t.stream 1).sendList.map (fun r => (r.kind, r.state)), (t.stream 1).copyPos.map CopyPos.granule,
          (t.stream 1).state)) = some ([(.void, .ready)], some 1, .resync) := by decide +kernel

/-- The middle one of three flagged records is freed, and the others are closed up (R22, log 40). -/
theorem test_mpResponse_closesUp :
    let l := [5, 6, 7].map (fun q => { aRecord q .captured 1 with discard := true })
    let s := outstandingAs 3 (.write [{ data := 7#8, strobe := true }]) (.through (.bound 1 6))
      (withRecords (site .off .bound) l)
    look (.mpResponse 3 .okay lineOf7) s (fun t => (t.stream 1).sendList.map (fun r => (r.slot, r.seq))) =
      some [(5, 5#16), (7, 6#16)] := by decide +kernel

/-- After link UP, before the retaking, a NAK GAP in range and an ACK with progress start the timer (log 50). -/
theorem test_timer_afterUp :
    let l := [aRecord 0 .sent 0, aRecord 1 .sent 0]
    let s := (linkedUp (withRecords (site .active .bound) l)).modStream 1
      (fun st => { st with sentSeq := 1#16, retransmitTimer := none })
    look (.nakArrival { number := 6#8, target := 1, origin := 2, session := 5#8, kind := 0#8, value := 1#16, credit := 0#8 }) s
        (fun t => (t.stream 1).retransmitTimer.isSome) = some true ∧
      look (.ackArrival { number := 6#8, target := 1, origin := 2, session := 5#8, seq := 0#16, credit := 0#8 }) s
        (fun t => (t.stream 1).retransmitTimer.isSome) = some true := by decide +kernel

theorem test_mpResponse_endsAudit :
    look (.mpResponse 3 .error lineOf7) (auditing (boundWrite (aRecord 0 .captured 1) .active))
        (fun t => (t.events.entries.map (fun e => e.code), t.audit.result.outcome, t.audit.result.reason)) =
      some ([.auditDone, .memError, .streamState], .aborted, .stream) := by decide +kernel

/-- Outside UP a retirement returns no credit (R105). -/
theorem test_retire_outsideUp :
    (withEntries (site .active .bound) [anEntry (.done .okay)]).link.state ≠ .up ∧
      ((withEntries (site .active .bound) [anEntry (.done .okay)]).retire (anEntry (.done .okay)) .okay).apply =
        { queue := [], pendingCredits := 0 } ∧
      ((withEntries (linkedUp (site .active .bound)) [anEntry (.done .okay)]).retire (anEntry (.done .okay))
        .okay).apply.pendingCredits = 1 := by decide +kernel

theorem test_transmitGrant_rec :
    look .transmitGrant (linkedUp (withRecords (site .active .bound) [aRecord 0 .ready 0]))
        (fun t => (t.out.frame.map Frame.kindCode, t.link.credits, (t.stream 1).sendList.map (fun r => r.state),
          (t.stream 1).cursor)) = some (some 2#8, 29, [.sent], none) := by decide +kernel

theorem test_helloArrival_reachesUp :
    look (.helloArrival (aHello false true 32#8))
        { training State.reset with link := { (training State.reset).link with heardSent := true } }
        (fun t => (t.link.state, t.link.credits, t.events.entries.map (fun e => (e.code, e.detail)))) =
      some (.up, 32, [(.linkUp, 32#20)]) := by decide +kernel

theorem test_recArrival_queued :
    look (.recArrival (aRec 9#8 0#16 63#20)) (linkedUp (site .active .bound))
        (fun t => (t.apply.queue.map (fun e => (e.seq, e.line, e.payload.mask)), (t.stream 2).acceptSeq)) =
      some ([(0#16, 63#20, 1#64)], 1#16) := by decide +kernel

theorem test_ackArrival_frees :
    look (.ackArrival { number := 6#8, target := 1, origin := 2, session := 5#8, seq := 0#16, credit := 1#8 })
        (sentUp .active [aRecord 0 .sent 0, aRecord 1 .sent 0])
        (fun t => ((t.stream 1).sendList.map (fun r => r.slot), t.freeCount, t.link.credits)) =
      some ([1], 511, 31) := by decide +kernel

theorem test_nakArrival_goesBack :
    look (.nakArrival
        { number := 6#8, target := 1, origin := 2, session := 5#8, kind := 0#8, value := 1#16, credit := 0#8 })
        ((sentUp .active [aRecord 0 .sent 0, aRecord 1 .sent 0]).modStream 1 (fun st => { st with cursor := none }))
        (fun t => ((t.stream 1).cursor, (t.stream 1).retryCount)) = some (some 1#16, 1) := by decide +kernel

theorem test_handshake_arrivals :
    look (.openArrival { number := 6#8, target := 2, origin := 3, session := 1#8, sizeCode := 0#8 })
        (linkedUp (site .active .listen)) (fun t => ((t.stream 2).state, t.link.class3)) =
        some (.bound, [.opened 2 3 1#8]) ∧
      look (.openedArrival { number := 6#8, target := 1, origin := 2, session := 5#8 }) (linkedUp (site .opening .off))
        (fun t => (t.stream 1).state) = some .active ∧
      look (.refuseArrival { number := 6#8, target := 1, origin := 2, session := 5#8, reason := 3#8 })
        (linkedUp (site .opening .off)) (fun t => ((t.stream 1).state, (t.stream 1).reason)) =
        some (.degraded, .size) ∧
      look (.closeArrival { number := 6#8, target := 2, origin := 3, session := 9#8 }) (linkedUp (site .off .bound))
        (fun t => ((t.stream 2).state, t.link.class3)) = some (.listen, [.closed 2 3 9#8]) ∧
      look (.closedArrival { number := 6#8, target := 1, origin := 2, session := 5#8 }) (linkedUp (site .closing .off))
        (fun t => (t.stream 1).state) = some .closing := by decide +kernel

theorem test_digest_arrivals :
    let dgq : DgqFrame := { number := 6#8, target := 2, origin := 3, session := 9#8, tag := 1#8, firstLine := 0#20,
                            lineCount := 64#21, mark := 65535#16 }
    let dgr : DgrFrame := { number := 6#8, target := 1, origin := 2, tag := 7#8, status := 0#8, reason := 0#8,
                            digest := 0#32 }
    let w := linkedUp { auditing (site .active .bound) with audit :=
      { (auditing (site .active .bound)).audit with
        initiator := { (auditing (site .active .bound)).audit.initiator with state := .waiting } } }
    look (.dgqArrival dgq) (linkedUp (site .active .bound)) (fun t => t.audit.responder.state) = some .reading ∧
      look (.dgqArrival { dgq with mark := 0x7FFF#16 }) (linkedUp (site .active .bound))
        (fun t => t.audit.responder.state) = some .armed ∧
      look (.dgrArrival dgr) w (fun t => t.audit.result.outcome) = some .matched ∧
      look (.dgrArrival { dgr with reason := 15#8 }) w (fun t => t.audit.initiator.state) = some .waiting := by
  decide +kernel

theorem test_unaccepted_frames :
    look .badFrameArrival (linkedUp State.reset) (fun t => (t.link.state, t.link.frameErrors)) = some (.training, 1) ∧
      look (.unknownKindArrival 12#8) (linkedUp State.reset) (fun t => t.events.entries.map (fun e => e.code)) =
        some [.protocolError, .linkRetrain] := by decide +kernel

theorem test_link_timers :
    look .helloTimerExpiry { training State.reset with link := { (training State.reset).link with helloRequest := false } }
        (fun t => t.link.helloRequest) = some true ∧
      look .trainingTimerExpiry (training (site .active .bound))
        (fun t => (t.link.state, (t.stream 1).state, (t.stream 2).state)) = some (.down, .degraded, .listen) ∧
      look .downRetryExpiry
        { State.reset with link := { State.reset.link with state := .down, downTimer := some 0#32 } }
        (fun t => t.link.state) = some .training ∧
      look .keepaliveTimerExpiry (linkedUp State.reset).startKeepalive (fun t => t.link.helloRequest) = some true ∧
      look .silenceTimerExpiry (linkedUp State.reset).startSilence (fun t => t.link.state) = some .training := by
  decide +kernel

theorem test_stream_timers :
    look (.handshakeTimerExpiry 1) ((site .opening .off).modStream 1 (fun st => { st with handshakeTimer := some 0#32 }))
        (fun t => ((t.stream 1).handshakeDue, (t.stream 1).retryCount)) = some (true, 1) ∧
      look (.retransmitTimerExpiry 1)
        ((sentUp .active [aRecord 0 .sent 0]).modStream 1
          (fun st => { st with retransmitTimer := some 0#32, cursor := none }))
        (fun t => (t.stream 1).cursor) = some (some 0#16) ∧
      look (.ackDelayTimerExpiry 2)
        ((linkedUp (site .active .bound)).modStream 2 (fun st => { st with ackDelayTimer := some 0#32 }))
        (fun t => t.link.class2) = some [.ack 2] := by decide +kernel

theorem test_audit_timers :
    let s := site .active .bound
    let w := { s with audit := { s.audit with
      initiator := { s.audit.initiator with state := .waiting, timer := some 1#32 }
      responder := { s.audit.responder with state := .armed, timer := some 1#32 } } }
    look .responseTimerExpiry w (fun t => t.audit.result.outcome) = some .timeout ∧
      look .responderTimerExpiry w (fun t => t.audit.resultSlot.map (fun a => (a.status, a.reason))) =
        some (some (.refused, .expired)) := by decide +kernel

theorem test_stream_commands :
    look (.openStream noParams) (site .off .off) (fun t => ((t.stream 1).state, (t.stream 1).dirty.length)) =
        some (.opening, 64) ∧
      look (.openClean noParams) (site .off .off) (fun t => ((t.stream 1).state, (t.stream 1).dirty)) =
        some (.opening, []) ∧
      look (.reopen noParams) (site .degraded .off) (fun t => (t.stream 1).session) = some 6#8 ∧
      look (.close noParams) (site .active .off) (fun t => ((t.stream 1).state, (t.stream 1).handshakeDue)) =
        some (.closing, true) ∧
      look (.resetStream noParams) (linkedUp (site .active .off)) (fun t => ((t.stream 1).state, t.link.class3)) =
        some (.off, [.resetClose 1 5#8]) ∧
      look (.listen { noParams with stream := 2 }) (site .off .off) (fun t => (t.stream 2).state) = some .listen := by
  decide +kernel

theorem test_other_commands :
    look (.linkEnable noParams) State.reset (fun t => (t.link.state, t.mgmt.result.outcome)) = some (.training, .done) ∧
      look (.linkDisable noParams) (linkedUp State.reset) (fun t => t.link.state) = some .off ∧
      look (.linkRetrain noParams) (linkedUp State.reset) (fun t => t.link.state) = some .training ∧
      look (.auditStart noParams) (site .active .off) (fun t => (t.audit.initiator.state, t.audit.initiator.tag)) =
        some (.reading, 1#8) ∧
      look (.auditAbort noParams) (auditing (site .active .off)) (fun t => t.audit.result.outcome) = some .aborted ∧
      look (.softReset noParams) (fullHolds (site .active .off)) (fun t => (t.softReset, t.sp.responses.length)) =
        some (true, 4) ∧
      look (.unknownCommand 0x55#8 noParams) State.reset (fun t => t.mgmt.result.outcome) = some .refusedParam := by
  decide +kernel

theorem test_resets :
    look .softResetCompletion { site .active .bound with softReset := true }
        (fun t => (t.softReset, (t.stream 1).state, t.events.entries.map (fun e => e.code))) =
        some (false, .off, [.reset]) ∧
      look .softResetCompletion inSoftReset (fun t => t.softReset) = some true ∧
      look .resetNAssert State.reset (fun t => t.resetAsserted) = some true ∧
      look .resetNRelease { site .active .bound with resetAsserted := true } (fun t => decide (t = State.reset)) =
        some true := by decide +kernel

/-- The SPI port after a command. -/
def port (c : Instr) (s : State) : Option SpiPort := look c s (fun t => t.mgmt.spi)

theorem test_reads :
    look .eventPop (State.reset.put .linkUp none 3#20) (fun t => (t.mgmt.spi.miso, t.events.entries)) =
        some ([.zero, .status false, .word 0x3002#32], []) ∧
      look .minimumFreeRead { State.reset with pool := { State.reset.pool with minFree := 7 } }
        (fun t => (t.mgmt.spi.miso.getLast?, t.pool.minFree)) = some (some (.word 7#32), 512) ∧
      look .frameCheckErrorCountRead { State.reset with link := { State.reset.link with frameErrors := 9 } }
        (fun t => (t.mgmt.spi.miso.getLast?, t.link.frameErrors)) = some (some (.word 9#32), 0) := by decide +kernel

/-- The state that a step leads to, where it answers next. -/
def stepped (s : State) : Option State :=
  match step s with
  | .next t => some t
  | .fault _ => none
  | .refused _ => none

/-- A pop, then the event time word in the same transaction: the address returns to the pop word (R161). -/
theorem test_reads_event_region :
    ((after .eventPop (withReads [0x341#16] ({ State.reset with events :=
        { State.reset.events with time := 5#32 } }.put .linkUp none 3#20))).bind stepped).map
        (fun t => (t.mgmt.spi, t.mgmt.reads)) =
      some ({ kind := .read, address := 0x340#16, refused := false, miso := [.word 5#32] }, []) := by decide +kernel

theorem test_reads_words :
    (stepped (withReads [0#16] State.reset)).map (fun t => t.mgmt.spi) =
        some { kind := .read, address := 1#16, refused := false,
               miso := [.zero, .status false, .word 0x06120001#32] } ∧
      (stepped (withReads [0xFFFF#16] State.reset)).map (fun t => t.mgmt.spi.address) = some 0#16 ∧
      (stepped (withReads [0x340#16] (State.reset.put .linkUp none 3#20))).map (fun t => t.events.entries) = some [] ∧
      [0x00F#16, 0x014#16, 0x140#16, 0x280#16, 0x30A#16, 0x314#16, 0x324#16, 0x332#16, 0x343#16, 0xFFFF#16].all
        (fun a => (site .active .bound).controlRead a == 0#32) = true := by decide +kernel

/-- A granule above 1023 sets no unnamed bit of the copy position word (R170, log 41). -/
theorem test_reads_copyPosition :
    (State.reset.modStream 1 (fun st => { st with copyPos := some { granule := 1000000, line := 1023 } })).controlRead
        0x21A#16 = 0x83FF0240#32 ∧
      (State.reset.modStream 1 (fun st => { st with copyPos := some { granule := 1023, line := 0 } })).controlRead
        0x21A#16 = 0x800003FF#32 := by decide +kernel

/-- Whether a write is refused at its boundary values (O54 to O57). -/
def refusal (c : Instr) (s : State) : Option Bool := look c s (fun t => t.mgmt.spi.refused)

/-- Streams 0 to 2 have the largest reserve. -/
def reserved (n : Nat) : State :=
  ((List.range n).map (Fin.ofNat 8)).foldl
    (fun s i => s.modStream i (fun st => { st with cfg := { st.cfg with reserve := 64 } })) State.reset

theorem test_boundaries_words :
    (refusal (.windowEntryWrite 0 0 0x001C0001#32) State.reset = some false ∧
      refusal (.windowEntryWrite 0 0 0x001D0000#32) State.reset = some true) ∧
      (refusal (.streamConfigWrite 7 0 0xE0#32) State.reset = some false ∧
        refusal (.streamConfigWrite 7 0 0xF0#32) State.reset = some true) ∧
      (refusal (.streamConfigWrite 7 3 0x02000040#32) State.reset = some false ∧
        refusal (.streamConfigWrite 7 3 0x02000041#32) State.reset = some true ∧
        refusal (.streamConfigWrite 7 3 0x02010000#32) State.reset = some true) ∧
      (refusal (.streamConfigWrite 7 3 0x02000040#32) (reserved 3) = some false ∧
        refusal (.streamConfigWrite 7 3 0x02000001#32) (reserved 4) = some true) ∧
      (refusal (.controlWordWrite 0x13#16 0x0A10#32) State.reset = some false ∧
        refusal (.controlWordWrite 0x13#16 0x0A11#32) State.reset = some true) ∧
      [0x00F#16, 0x014#16, 0x140#16, 0x280#16].map (fun a => refusal (.controlWordWrite a 1#32) State.reset) =
        [some true, some true, some true, some true] := by decide +kernel

theorem test_word_writes :
    look (.windowEntryWrite 5 0 0x00040101#32) State.reset (fun t => (t.window 5, t.mgmt.spi.refused)) =
        some ({ enable := true, kind := .pass, base := 0#36, sizeCode := 4, stream := 1 }, false) ∧
      look (.windowEntryWrite 5 3 0#32) State.reset (fun t => t.mgmt.spi.refused) = some true ∧
      look (.streamConfigWrite 7 3 0x02000040#32) State.reset
        (fun t => ((t.stream 7).cfg.reserve, (t.stream 7).cfg.limit)) = some (64, 512) ∧
      look (.streamConfigWrite 1 4 0x5#32) (site .off .off) (fun t => t.mgmt.spi.refused) = some true ∧
      look (.poolLowThresholdWrite 0x000001FF#32) State.reset (fun t => t.global.poolLowThreshold) = some 511 ∧
      look (.poolLowThresholdWrite 0x80000040#32) (linkedUp State.reset) (fun t => t.mgmt.spi.refused) = some false ∧
      look (.alertEnableWrite 0x00010040#32) (State.reset.put .linkUp none 3#20) State.alertLow = some true ∧
      look (.controlWordWrite 0x13#16 0x0A10#32) State.reset (fun t => (t.global.ackBatch, t.global.ackDelay)) =
        some (16, 10) := by decide +kernel

/-- Bit 31 of word 0010H is ignored and the status stays OK, with the link OFF and with the link UP (R158, log 44). -/
theorem test_indicationWrite :
    port (.poolLowThresholdWrite 0x80000041#32) State.reset =
        some { kind := .write, address := 0x11#16, refused := false, miso := [.zero, .status false, .status false] } ∧
      look (.controlWordWrite 0x10#16 0x80010041#32) State.reset
        (fun t => (t.global.poolLowThreshold, t.global.alertEnable, t.linkEnabled)) = some (65, true, false) ∧
      look (.alertEnableWrite 0x00010040#32) (linkedUp State.reset)
        (fun t => (t.mgmt.spi.refused, t.global.alertEnable, t.linkEnabled)) = some (false, true, true) := by
  decide +kernel

theorem test_spi :
    port .spiBadCommandByte State.reset =
        some { kind := .bad, address := 0#16, refused := true, miso := [.zero, .status true] } ∧
      look (.controlWordWrite 0x13#16 0x0A10#32) State.reset.badCommandByte
        (fun t => (t.global.ackBatch, t.mgmt.spi.miso)) = some (4, [.status true]) ∧
      port .csNRising State.reset.badCommandByte = some SpiPort.reset := by decide +kernel

/-- A refused write sets REFUSED for the rest of its transaction, and a new transaction begins with OK (R157). -/
theorem test_spi_status :
    let first := after (.controlWordWrite 0x12#16 0#32) State.reset
    (first.map (fun t => t.mgmt.spi)) =
        some { kind := .write, address := 0x13#16, refused := true, miso := [.zero, .status false, .status true] } ∧
      (first.bind (port (.controlWordWrite 0x13#16 0x0A10#32))) =
        some { kind := .write, address := 0x14#16, refused := true, miso := [.status true] } ∧
      (first.bind (port (.controlWordWrite 0x10#16 0#32))) =
        some { kind := .write, address := 0x11#16, refused := false,
               miso := [.zero, .status false, .status false] } := by decide +kernel

theorem test_frames :
    receive (Frame.bytes (.ack { number := 6#8, target := 1, origin := 2, session := 5#8, seq := 0x1234#16,
                                 credit := 1#8 })) =
      .ackArrival { number := 6#8, target := 1, origin := 2, session := 5#8, seq := 0x1234#16, credit := 1#8 } := by
  decide +kernel

end Sys2Proof.Tests
end

section
/-! PROOFS. A head answered at once: a request that crosses a line boundary (R3) and an empty write (R4). The answer
touches the SP response queue alone, so the whole end of the event can be followed: what was settled stays settled. -/

namespace Sys2Proof.Machine

/-! ### The System Port and the count of free choices given -/

/-- The state with the System Port and the count of free choices replaced: parts that neither the Apply Engine's pass
nor the service search reads. -/
def State.withPort (s : State) (p : SystemPort) (n : Nat) : State := { s with sp := p, choices := n }

/-- The service search commutes with a change of the System Port and of the count of free choices. -/
theorem State.searchOver_withPort (l : List StreamId) (s : State) (p : SystemPort) (n : Nat) :
    (s.withPort p n).searchOver l = (s.searchOver l).withPort p n := by
  induction l generalizing s with
  | nil => rfl
  | cons i rest ih =>
    let u := s.modStream i Stream.startGranule
    have served : ((s.withPort p n).stream i).served = (s.stream i).served := rfl
    have started : (s.withPort p n).modStream i Stream.startGranule = u.withPort p n := rfl
    have allowed : (u.withPort p n).slotAllowed i = u.slotAllowed i := rfl
    have proceeds : (u.withPort p n).proceedCopy i = (u.proceedCopy i).withPort p n := by
      unfold State.proceedCopy
      rw [apply_ite (fun v : State => v.withPort p n)]
      rfl
    simp only [State.searchOver, served, started, allowed, proceeds, ih]
    split
    · split <;> rfl
    · rfl

theorem State.serviceSearch_withPort (s : State) (p : SystemPort) (n : Nat) :
    (s.withPort p n).serviceSearch = s.serviceSearch.withPort p n := by
  unfold State.serviceSearch
  rw [apply_ite (fun v : State => v.withPort p n), ← State.searchOver_withPort]
  rfl

theorem State.passEntries_withPort (l : List ApplyEntry) (s : State) (p : SystemPort) (n : Nat) :
    (s.withPort p n).passEntries l = s.passEntries l := by
  induction l with
  | nil => rfl
  | cons e rest ih =>
    have stale : (s.withPort p n).entryStale e = s.entryStale e := rfl
    simp only [State.passEntries, stale, ih]

/-- A settled state stays settled whatever its System Port holds. -/
theorem State.settled_withPort (s : State) (p : SystemPort) (n : Nat) (h : s.settled) : (s.withPort p n).settled := by
  obtain ⟨howed, ⟨hpass, hdone⟩, hsearch⟩ := h
  refine ⟨howed, ⟨?_, hdone⟩, ?_⟩
  · exact (State.passEntries_withPort s.apply.queue s p n).trans hpass
  · rw [State.serviceSearch_withPort, hsearch]

/-- A request that is taken at once is so whatever the count of free choices. -/
theorem State.headReady_withChoices (s : State) (r : SpRequest) (n : Nat) (h : s.headReady r) :
    (s.withPort s.sp n).headReady r := by
  obtain ⟨hlive, hsettled, hch, hwf, htag⟩ := h
  exact ⟨hlive, s.settled_withPort s.sp n hsettled, hch, hwf, htag⟩

/-! ### The end of an event of a settled state -/

/-- The Apply Engine's pass has nothing to do where it rests. -/
theorem State.applyPass_of_rest (n : Nat) (s : State) (h : s.applyRest) : State.applyPass n s = s := by
  obtain ⟨hpass, hdone⟩ := h
  have issue : s.passIssuePoint = s := by unfold State.passIssuePoint; rw [hpass]
  cases n with
  | zero => exact issue
  | succ n =>
    simp only [State.applyPass, issue]
    split
    · rfl
    · next e rest hq =>
      have notDone := hdone e rest hq
      split
      · next o ho => simp [ApplyEntry.isDone, ho] at notDone
      · rfl
      · rfl

/-- The end of an event of a live, settled state: the head's classification with the service search, and the standing
requests. -/
theorem settle_of_settled (s : State) (hlive : s.live) (h : s.settled) :
    settle s = s.searchAndDrain.refreshRequests := by
  obtain ⟨hreset, hsoft⟩ := hlive
  obtain ⟨howed, hrest, -⟩ := h
  rw [settle_live s hsoft hreset, State.applyPass_of_rest _ s hrest, State.flushOwed_of_none s howed]

/-- The standing requests change the arbiter's three classes and the count of free choices alone. -/
theorem State.tookHead_refreshRequests (u v : State) (h : State.tookHead u v) :
    State.tookHead u v.refreshRequests := by
  unfold State.tookHead at h ⊢
  rw [h]
  rfl

/-! ### A head answered at once -/

/-- The System Port after a head is answered at once: nothing presented, no timer, the response queued. -/
def SystemPort.answered (p : SystemPort) (t : SpTag) (st : Status) (d : List Byte) : SystemPort :=
  { channel := [], slotWait := none, responses := p.responses ++ [{ tag := t, status := st, data := d }] }

/-- Where nothing is presented, a request that joins the channel and leaves it again leaves no trace. -/
theorem State.dropHead_joinChannel (s : State) (r : SpRequest) (h : s.sp.channel = []) :
    (s.joinChannel r).dropHead = s := by
  simp only [State.joinChannel, State.dropHead, h, List.nil_append, List.tail_cons]
  rw [← h]

section Answered

variable {r : SpRequest} {st : Status} {d : List Byte}

/-- A new head whose check answers it leaves the channel, and nothing but its response stays of it. -/
theorem State.drainHead_answered (s : State) (h : s.headReady r)
    (ans : s.tryHead r = .taken (s.respond r.tag st d)) :
    State.drainHead 2 (s.joinChannel r) = s.withPort (s.sp.answered r.tag st d) s.choices := by
  obtain ⟨-, ⟨howed, -, hsearch⟩, hch, -, -⟩ := h
  let u := s.withPort (s.sp.answered r.tag st d) s.choices
  have head : (s.joinChannel r).sp.channel = [r] := by simp [State.joinChannel, hch]
  have answered : (s.respond r.tag st d).setSlotWait none = u := by
    simp only [u, State.respond, State.setSlotWait, State.withPort, SystemPort.answered, hch]
  have flushed : u.flushOwed = u := State.flushOwed_of_none u howed
  have searched : u.serviceSearch = u := by rw [State.serviceSearch_withPort, hsearch]
  simp only [State.drainHead, head, State.dropHead_joinChannel s r hch, ans, answered, flushed, searched]
  rfl

/-- The service searches at the end of the event serve nothing, in whichever order a free choice puts them (log 5). -/
theorem State.searchAndDrain_answered (s : State) (h : s.headReady r)
    (ans : ∀ u : State, u.headReady r → u.tryHead r = .taken (u.respond r.tag st d)) :
    ∃ n, (s.joinChannel r).searchAndDrain = s.withPort (s.sp.answered r.tag st d) n := by
  have drained (n : Nat) : State.drainHead 2 ((s.withPort s.sp n).joinChannel r) =
      s.withPort (s.sp.answered r.tag st d) n :=
    State.drainHead_answered _ (s.headReady_withChoices r n h) (ans _ (s.headReady_withChoices r n h))
  obtain ⟨-, ⟨-, -, hsearch⟩, hch, -, -⟩ := h
  have searched (p : SystemPort) (n : Nat) : (s.withPort p n).serviceSearch = s.withPort p n := by
    rw [State.serviceSearch_withPort, hsearch]
  have presented : (s.joinChannel r).sp.channel.length + 1 = 2 := by simp [State.joinChannel, hch]
  have joined (n : Nat) : { s.joinChannel r with choices := n } = (s.withPort s.sp n).joinChannel r := rfl
  have joinedSearched (n : Nat) : ((s.withPort s.sp n).joinChannel r).serviceSearch =
      (s.withPort s.sp n).joinChannel r := searched _ n
  unfold State.searchAndDrain
  simp only [presented, joined]
  split
  · refine ⟨(s.joinChannel r).choices + 1, ?_⟩
    split
    · rw [joinedSearched, drained, searched]
    · rw [drained, searched]
  · refine ⟨s.choices, ?_⟩
    have here : State.drainHead 2 (s.joinChannel r) = _ := drained s.choices
    rw [here, searched]

/-- HEAD_TAKING of a request that every ready state answers at once adds the response and takes the head, and no
more. -/
theorem exec_headTaking_answered (s : State) (h : s.headReady r)
    (ans : ∀ u : State, u.headReady r → u.tryHead r = .taken (u.respond r.tag st d)) :
    ∃ t, exec (.headTaking r) s = .next t ∧ State.tookHead (s.respond r.tag st d) t := by
  obtain ⟨n, hn⟩ := State.searchAndDrain_answered s h ans
  obtain ⟨hlive, hsettled, -, hwf, -⟩ := h
  have joinedSettled : (s.joinChannel r).settled := s.settled_withPort _ s.choices hsettled
  refine ⟨(s.withPort (s.sp.answered r.tag st d) n).refreshRequests, ?_, ?_⟩
  · rw [exec_headTaking r s hwf, settle_of_settled (s.joinChannel r) hlive joinedSettled, hn]
  · exact State.tookHead_refreshRequests _ _ rfl

end Answered

/-! ### The two checks that answer a head -/

/-- A ready head has passed the first two rows of Table 1-2: no soft reset, and its tag is free. -/
theorem State.tryHead_of_ready (s : State) (r : SpRequest) (h : s.headReady r) :
    s.tryHead r =
      if r.crossesLine then .taken (s.respond r.tag .error (errorBytes r))
      else if r.emptyWrite then .taken (s.respond r.tag .okay [])
      else if s.heldLine (lineOf r.addr) then .waits
      else s.classify r := by
  obtain ⟨⟨-, hsoft⟩, -, -, -, htag⟩ := h
  have bytes (d : LineBytes) : responseData r.op r.addr .error d = errorBytes r := by
    unfold responseData errorBytes
    cases r.op <;> rfl
  simp only [State.tryHead, hsoft, htag, bytes, Bool.false_eq_true, if_false]

theorem State.tryHead_crossing (s : State) (r : SpRequest) (h : s.headReady r) (hc : r.crossesLine = true) :
    s.tryHead r = .taken (s.respond r.tag .error (errorBytes r)) := by
  rw [s.tryHead_of_ready r h, if_pos hc]

theorem State.tryHead_empty (s : State) (r : SpRequest) (h : s.headReady r) (hc : r.crossesLine = false)
    (he : r.emptyWrite = true) : s.tryHead r = .taken (s.respond r.tag .okay []) := by
  rw [s.tryHead_of_ready r h, hc, if_neg Bool.false_ne_true, if_pos he]

/-- R4 by lanes: a write is empty exactly where none of its lanes has its strobe set. -/
theorem emptyWrite_iff (r : SpRequest) (lanes : List Lane) (hop : r.op = .write lanes) :
    r.emptyWrite = true ↔ ∀ l ∈ lanes, l.strobe = false := by
  simp [SpRequest.emptyWrite, hop]

/-- The tag of a response that waits for delivery is outstanding (R1). -/
theorem State.tagOutstanding_of_response (s : State) (x : SpResponse) (h : x ∈ s.sp.responses) :
    s.tagOutstanding x.tag = true := by
  have waiting : s.sp.responses.any (fun y => y.tag == x.tag) = true :=
    List.any_eq_true.mpr ⟨x, h, beq_self_eq_true x.tag⟩
  simp only [State.tagOutstanding, waiting, Bool.or_true]

/-! ### The statements -/

/-- Settles O14: the line check answers the head ERROR (R3), and the end of the event adds nothing. -/
theorem crossingHeadAnsweredError : Obligations.CrossingHeadAnsweredError := by
  intro r s h hcross
  have crosses : r.crossesLine = true := decide_eq_true hcross
  obtain ⟨t, hexec, htook⟩ := exec_headTaking_answered s h fun u hu => u.tryHead_crossing r hu crosses
  exact ⟨t, hexec, htook, fun v hv => v.tagOutstanding_of_response _ hv⟩

/-- Settles O15: the empty-write check answers the head OKAY before the held lines and its window are looked at (R4). -/
theorem emptyWriteAnsweredOkay : Obligations.EmptyWriteAnsweredOkay := by
  intro r lanes s h hcross hop hstrobes
  have empty : r.emptyWrite = true := (emptyWrite_iff r lanes hop).mpr hstrobes
  exact exec_headTaking_answered s h fun u hu => u.tryHead_empty r hu hcross empty

end Sys2Proof.Machine
end


section
/-! PROOFS. The end of an event: what one taking of a head can be, an induction over the parts of `settle`, and the
statements about it (what it leaves unchanged, that it leaves a live state settled, the standing requests). -/

namespace Sys2Proof.Machine

/-! ### The taking of a head, said once -/

/-- What a head that is taken leaves: answered, forwarded, tracked, placed in a send list, held, or refused. -/
inductive State.TakenTo (s : State) (r : SpRequest) : State → Prop where
  | answered (st : Status) (d : List Byte) : s.TakenTo r (s.respond r.tag st d)
  | plain : s.TakenTo r (s.forwardPlain r)
  | tracked (i : StreamId) : s.TakenTo r (s.forwardTracked r i)
  | placed (i : StreamId) (slot : Nat) (line : LineIndex) (p : Payload) (h : (s.offer i line p).1 ≠ .refused) :
      s.TakenTo r ((s.offer i line p).2.forward r (.bound i slot))
  | held (k : Fin 4) (i : StreamId) (lanes : List Lane) (free : s.hold k = none)
      (line : s.heldLine (lineOf r.addr) = false) : s.TakenTo r (s.takeHold k i r.tag r.addr lanes)
  | refused (c : EventCode) (i : StreamId) (d : BitVec 20) : s.TakenTo r (s.refuseHead r c i d)

theorem State.hold_of_freeHold (s : State) (k : Fin 4) (h : s.freeHold = some k) : s.hold k = none := by
  simpa using List.find?_some h

theorem State.takenTo_of_placeMirror (s t : State) (r : SpRequest) (i : StreamId) (h : s.placeMirror r i = .taken t) :
    s.TakenTo r t := by
  unfold State.placeMirror at h
  dsimp only at h
  split at h
  case h_1 slot s1 heq =>
    cases h
    have := State.TakenTo.placed (s := s) (r := r) i slot ((s.stream i).cfg.lineIndex r.addr) r.payload (by simp [heq])
    rwa [heq] at this
  case h_2 slot s1 heq =>
    cases h
    have := State.TakenTo.placed (s := s) (r := r) i slot ((s.stream i).cfg.lineIndex r.addr) r.payload (by simp [heq])
    rwa [heq] at this
  case h_3 =>
    split at h
    · cases h; exact .tracked i
    · cases h

theorem State.takenTo_of_gateCheck (s t : State) (r : SpRequest) (i : StreamId) (lanes : List Lane)
    (hline : s.heldLine (lineOf r.addr) = false) (h : s.gateCheck r i lanes = .taken t) : s.TakenTo r t := by
  unfold State.gateCheck at h
  split at h
  · exact s.takenTo_of_placeMirror t r i h
  · split at h
    · next k hk => cases h; exact .held k i lanes (s.hold_of_freeHold k hk) hline
    · cases h

theorem State.takenTo_of_classify (s t : State) (r : SpRequest) (hline : s.heldLine (lineOf r.addr) = false)
    (h : s.classify r = .taken t) : s.TakenTo r t := by
  unfold State.classify at h
  split at h
  · cases h; exact .plain
  split at h
  · cases h; exact .plain
  split at h
  · cases h; exact .plain
  · unfold State.mirrorHead at h
    split at h
    · cases h; exact .plain
    · cases h; exact .plain
    · cases h; exact .tracked _
    · cases h; exact .tracked _
    · exact s.takenTo_of_placeMirror t r _ h
    · exact s.takenTo_of_placeMirror t r _ h
    · cases h; exact .plain
    · cases h; exact .plain
  · unfold State.gatedHead at h
    split at h
    · cases h; exact .plain
    · exact s.takenTo_of_gateCheck t r _ _ hline h
    · exact s.takenTo_of_gateCheck t r _ _ hline h
    all_goals (cases h; constructor)
  · unfold State.guardedHead at h
    split at h
    all_goals (cases h; constructor)

/-- The inversion of the head's checks: a head that is taken is taken in one of the six ways. -/
theorem State.takenTo_of_tryHead (s t : State) (r : SpRequest) (h : s.tryHead r = .taken t) : s.TakenTo r t := by
  unfold State.tryHead at h
  split at h
  · cases h
  split at h
  · cases h
  split at h
  · cases h; exact .answered _ _
  split at h
  · cases h; exact .answered _ _
  split at h
  · cases h
  · next hline => exact s.takenTo_of_classify t r (by simpa using hline) h

/-! ### Induction over the end of an event -/

/-- A property that every part of the end of an event keeps. -/
structure EndKeeps (P : State → Prop) : Prop where
  passed : ∀ s, P s → P s.passIssuePoint
  retired : ∀ s e o, P s → P (s.retire e o)
  flushed : ∀ s, P s → P s.flushOwed
  taken : ∀ s r t, P s → s.dropHead.TakenTo r t → P t
  waited : ∀ s w, P s → P (s.setSlotWait w)
  searched : ∀ s, P s → P s.serviceSearch
  chosen : ∀ (s : State) n, P s → P { s with choices := n }
  refreshed : ∀ s, P s → P s.refreshRequests

/-- Heads are drained by takings, each an event with its service search, and by changes of the slot-wait timer. -/
theorem State.drainHead_keeps {P : State → Prop}
    (took : ∀ s r t, P s → s.dropHead.TakenTo r t → P ((t.setSlotWait none).flushOwed.serviceSearch))
    (waited : ∀ s w, P s → P (s.setSlotWait w)) (n : Nat) (s : State) (h : P s) : P (State.drainHead n s) := by
  induction n generalizing s with
  | zero => exact h
  | succ n ih =>
    unfold State.drainHead
    split
    · exact waited s none h
    · next r rest hch =>
      split
      · next t ht => exact ih _ (took s r t h (State.takenTo_of_tryHead _ _ _ ht))
      · exact waited s none h
      · unfold State.waitForSlot
        split
        · split
          · exact h
          · exact waited s _ h
        · exact waited s _ h

namespace EndKeeps

variable {P : State → Prop}

theorem drained (k : EndKeeps P) (n : Nat) (s : State) (h : P s) : P (State.drainHead n s) :=
  State.drainHead_keeps
    (fun s r t h ht => k.searched _ (k.flushed _ (k.waited _ _ (k.taken s r t h ht)))) k.waited n s h

theorem searchedAndDrained (k : EndKeeps P) (s : State) (h : P s) : P s.searchAndDrain := by
  unfold State.searchAndDrain
  dsimp only
  split
  · split
    · exact k.searched _ (k.drained _ _ (k.searched _ (k.chosen s _ h)))
    · exact k.searched _ (k.drained _ _ (k.chosen s _ h))
  · exact k.searched _ (k.drained _ _ h)

theorem applied (k : EndKeeps P) (n : Nat) (s : State) (h : P s) : P (State.applyPass n s) := by
  induction n generalizing s with
  | zero => exact k.passed s h
  | succ n ih =>
    unfold State.applyPass
    dsimp only
    split
    · exact k.passed s h
    · split
      · exact ih _ (k.retired _ _ _ (k.passed s h))
      · exact k.passed s h
      · exact k.passed s h

/-- What every part of the end of an event keeps, the end of the event keeps. -/
theorem settled (k : EndKeeps P) (s : State) (h : P s) : P (settle s) := by
  unfold settle
  split
  · exact k.flushed s h
  · exact k.refreshed _ (k.searchedAndDrained _ (k.flushed _ (k.applied _ s h)))

end EndKeeps

/-! ### What one command can do -/

/-- The owners to whom the link hands an accepted frame. -/
inductive FrameOwner : (State → State) → Prop where
  | record (f : RecFrame) : FrameOwner (State.recAccepted f)
  | ack (f : AckFrame) : FrameOwner (fun s => s.creditReturn f.credit (State.ackAccepted f))
  | nak (f : NakFrame) : FrameOwner (fun s => s.creditReturn f.credit (State.nakAccepted f))
  | openStream (f : OpenFrame) : FrameOwner (State.openAccepted f)
  | opened (f : HandshakeFrame) : FrameOwner (State.openedAccepted f)
  | refuse (f : RefuseFrame) : FrameOwner (State.refuseAccepted f)
  | close (f : HandshakeFrame) : FrameOwner (State.closeAccepted f)
  | closed (f : HandshakeFrame) : FrameOwner (State.closedAccepted f)
  | dgq (f : DgqFrame) : FrameOwner (State.dgqAccepted f)
  | dgr (f : DgrFrame) : FrameOwner (State.dgrAccepted f)

/-- The writes of control-space words that command `c` can be; a window's word is written by such a command alone. -/
inductive WordWrite (c : Instr) : (State → Option State) → Prop where
  | window (hc : writesWindows c = true) (n : Fin 16) (o : Nat) (w : Word32) : WordWrite c (fun s => s.writeWindow n o w)
  | word (hc : writesWindows c = true) (a : BitVec 16) (w : Word32) : WordWrite c (fun s => s.controlWrite a w)
  | stream (i : StreamId) (o : Nat) (w : Word32) : WordWrite c (fun s => s.writeStream i o w)
  | threshold (w : Word32) : WordWrite c (fun s => s.writeThreshold w)
  | command (code : Byte) (p : CmdParams) : WordWrite c (fun s => some (s.takeCommand code p))

/-- The effect that command `c` can have, before the end of its event. -/
inductive State.Effect (c : Instr) (s : State) : State → Prop where
  | quiet : s.Effect c s
  | joined (r : SpRequest) : s.Effect c (s.joinChannel r)
  | delivered : s.Effect c s.deliverResponse
  | slotWait : s.Effect c s.slotWaitExpired
  | combine (i : StreamId) : s.Effect c (s.combineExpired i)
  | hold (k : Fin 4) : s.Effect c (s.holdExpired k)
  | granted : s.Effect c s.mpGrant
  | response (t : MpTag) (st : Status) (d : LineBytes) : s.Effect c (s.mpResponse t st d)
  | transmitted : s.Effect c s.transmitGrant
  | hello (f : HelloFrame) : s.Effect c (s.helloArrives f)
  | frame (n : Byte) (owner : State → State) (h : FrameOwner owner) : s.Effect c (s.frameArrives n owner)
  | badFrame : s.Effect c s.badFrame
  | unknownKind : s.Effect c s.unknownKind
  | helloTimer : s.Effect c s.helloExpired
  | trainingTimer (h : s.link.state = .training) : s.Effect c s.trainingFailed
  | downTimer : s.Effect c s.enterTraining
  | keepalive : s.Effect c s.keepaliveExpired
  | silence : s.Effect c (s.retrain .silence)
  | handshake (i : StreamId) : s.Effect c (s.handshakeExpired i)
  | retransmit (i : StreamId) : s.Effect c (s.retransmitExpired i)
  | ackDelay (i : StreamId) : s.Effect c (s.ackDelayExpired i)
  | responseTimer : s.Effect c s.responseExpired
  | responderTimer : s.Effect c s.responderExpired
  | written (a : BitVec 16) (write : State → Option State) (h : WordWrite c write) : s.Effect c (s.spiWrite a write)
  | read (a : BitVec 16) : s.Effect c (s.spiRead a)
  | port (p : SpiPort) : s.Effect c (s.setSpi p)
  | asserted (p : SpiPort) : s.Effect c { s.setSpi p with resetAsserted := true }
  | completed (hc : writesWindows c = true) : s.Effect c s.finishSoftReset
  | released (hc : writesWindows c = true) : s.Effect c s.powerOn

/-- A state is left by command `c`: as it was, or at the end of the event of an effect. -/
def State.leftBy (c : Instr) (s t : State) : Prop := t = s ∨ ∃ u, s.Effect c u ∧ t = settle u

theorem happen_effect {c : Instr} {f : State → State} {s t : State} (h : happen f s = .next t) (e : s.Effect c (f s)) :
    s.leftBy c t := by
  unfold happen at h
  split at h
  · cases h; exact .inl rfl
  · cases h; exact .inr ⟨_, e, rfl⟩

theorem expiry_effect {c : Instr} {p : State → Bool} {f : State → State} {s t : State} (h : expiry p f s = .next t)
    (e : p s = true → s.Effect c (f s)) : s.leftBy c t := by
  refine happen_effect h ?_
  split
  · next hp => exact e (Bool.and_eq_true_iff.mp hp).1
  · exact .quiet

/-- The inversion of `exec`: every command changes nothing, or ends the event of one of the effects. -/
theorem exec_leftBy (c : Instr) (s t : State) (h : exec c s = .next t) : s.leftBy c t := by
  cases c with
  | headTaking r =>
    simp only [exec, execHeadTaking] at h
    split at h
    · cases h; exact .inr ⟨_, .joined r, rfl⟩
    · cases h
  | unknownKindArrival k =>
    simp only [exec, execUnknownKindArrival] at h
    split at h
    · cases h
    · exact happen_effect h .unknownKind
  | softResetCompletion =>
    refine happen_effect (f := fun s => if s.resetWaitOver then s.finishSoftReset else s) h ?_
    split
    · exact .completed rfl
    · exact .quiet
  | resetNRelease =>
    simp only [exec, execResetNRelease] at h
    split at h
    · cases h; exact .inr ⟨_, .released rfl, rfl⟩
    · cases h; exact .inl rfl
  | trainingTimerExpiry =>
    refine expiry_effect (p := fun s => s.link.state == .training && s.link.trainingTimer.isSome) h fun hp => ?_
    exact .trainingTimer (by simpa using (Bool.and_eq_true_iff.mp hp).1)
  | spResponseDelivery => exact happen_effect (f := State.deliverResponse) h .delivered
  | mpGrant => exact happen_effect (f := State.mpGrant) h .granted
  | mpResponse g st d => exact happen_effect (f := fun s => s.mpResponse g st d) h (.response g st d)
  | transmitGrant => exact happen_effect (f := State.transmitGrant) h .transmitted
  | helloArrival f => exact happen_effect (f := fun s => s.helloArrives f) h (.hello f)
  | recArrival f =>
    exact happen_effect (f := fun s => s.frameArrives f.number (State.recAccepted f)) h (.frame _ _ (.record f))
  | ackArrival f => exact happen_effect (f := fun s => s.frameArrives f.number _) h (.frame _ _ (.ack f))
  | nakArrival f => exact happen_effect (f := fun s => s.frameArrives f.number _) h (.frame _ _ (.nak f))
  | openArrival f => exact happen_effect (f := fun s => s.frameArrives f.number _) h (.frame _ _ (.openStream f))
  | openedArrival f => exact happen_effect (f := fun s => s.frameArrives f.number _) h (.frame _ _ (.opened f))
  | refuseArrival f => exact happen_effect (f := fun s => s.frameArrives f.number _) h (.frame _ _ (.refuse f))
  | closeArrival f => exact happen_effect (f := fun s => s.frameArrives f.number _) h (.frame _ _ (.close f))
  | closedArrival f => exact happen_effect (f := fun s => s.frameArrives f.number _) h (.frame _ _ (.closed f))
  | dgqArrival f => exact happen_effect (f := fun s => s.frameArrives f.number _) h (.frame _ _ (.dgq f))
  | dgrArrival f => exact happen_effect (f := fun s => s.frameArrives f.number _) h (.frame _ _ (.dgr f))
  | badFrameArrival => exact happen_effect (f := State.badFrame) h .badFrame
  | eventPop => exact happen_effect (f := fun s => s.spiRead _) h (.read _)
  | minimumFreeRead => exact happen_effect (f := fun s => s.spiRead _) h (.read _)
  | frameCheckErrorCountRead => exact happen_effect (f := fun s => s.spiRead _) h (.read _)
  | windowEntryWrite n o w => exact happen_effect (f := fun s => s.spiWrite _ _) h (.written _ _ (.window rfl n o.val w))
  | streamConfigWrite i o w => exact happen_effect (f := fun s => s.spiWrite _ _) h (.written _ _ (.stream i o.val w))
  | poolLowThresholdWrite w => exact happen_effect (f := fun s => s.spiWrite _ _) h (.written _ _ (.threshold w))
  | alertEnableWrite w => exact happen_effect (f := fun s => s.spiWrite _ _) h (.written _ _ (.threshold w))
  | controlWordWrite a w => exact happen_effect (f := fun s => s.spiWrite _ _) h (.written _ _ (.word rfl a w))
  | spiBadCommandByte => exact happen_effect (f := State.badCommandByte) h (.port _)
  | csNRising => exact happen_effect (f := State.endTransaction) h (.port _)
  | resetNAssert =>
    exact happen_effect (f := fun s => { s.setSpi { s.mgmt.spi with miso := [] } with resetAsserted := true }) h
      (.asserted _)
  | openStream p => exact happen_effect (f := fun s => s.spiWrite _ _) h (.written _ _ (.command 0x01#8 p))
  | openClean p => exact happen_effect (f := fun s => s.spiWrite _ _) h (.written _ _ (.command 0x02#8 p))
  | reopen p => exact happen_effect (f := fun s => s.spiWrite _ _) h (.written _ _ (.command 0x03#8 p))
  | close p => exact happen_effect (f := fun s => s.spiWrite _ _) h (.written _ _ (.command 0x04#8 p))
  | resetStream p => exact happen_effect (f := fun s => s.spiWrite _ _) h (.written _ _ (.command 0x05#8 p))
  | listen p => exact happen_effect (f := fun s => s.spiWrite _ _) h (.written _ _ (.command 0x06#8 p))
  | linkEnable p => exact happen_effect (f := fun s => s.spiWrite _ _) h (.written _ _ (.command 0x10#8 p))
  | linkDisable p => exact happen_effect (f := fun s => s.spiWrite _ _) h (.written _ _ (.command 0x11#8 p))
  | linkRetrain p => exact happen_effect (f := fun s => s.spiWrite _ _) h (.written _ _ (.command 0x12#8 p))
  | auditStart p => exact happen_effect (f := fun s => s.spiWrite _ _) h (.written _ _ (.command 0x20#8 p))
  | auditAbort p => exact happen_effect (f := fun s => s.spiWrite _ _) h (.written _ _ (.command 0x21#8 p))
  | softReset p => exact happen_effect (f := fun s => s.spiWrite _ _) h (.written _ _ (.command 0x5A#8 p))
  | unknownCommand code p => exact happen_effect (f := fun s => s.spiWrite _ _) h (.written _ _ (.command code p))
  | slotWaitTimerExpiry =>
    simp only [exec, execSlotWaitTimerExpiry] at h
    exact expiry_effect h fun _ => .slotWait
  | combineDeadlineExpiry i =>
    simp only [exec, execCombineDeadlineExpiry] at h
    exact expiry_effect h fun _ => .combine i
  | holdDeadlineExpiry k =>
    simp only [exec, execHoldDeadlineExpiry] at h
    exact expiry_effect h fun _ => .hold k
  | helloTimerExpiry =>
    simp only [exec, execHelloTimerExpiry] at h
    exact expiry_effect h fun _ => .helloTimer
  | downRetryExpiry =>
    simp only [exec, execDownRetryExpiry] at h
    exact expiry_effect h fun _ => .downTimer
  | keepaliveTimerExpiry =>
    simp only [exec, execKeepaliveTimerExpiry] at h
    exact expiry_effect h fun _ => .keepalive
  | silenceTimerExpiry =>
    simp only [exec, execSilenceTimerExpiry] at h
    exact expiry_effect h fun _ => .silence
  | handshakeTimerExpiry i =>
    simp only [exec, execHandshakeTimerExpiry] at h
    exact expiry_effect h fun _ => .handshake i
  | retransmitTimerExpiry i =>
    simp only [exec, execRetransmitTimerExpiry] at h
    exact expiry_effect h fun _ => .retransmit i
  | ackDelayTimerExpiry i =>
    simp only [exec, execAckDelayTimerExpiry] at h
    exact expiry_effect h fun _ => .ackDelay i
  | responseTimerExpiry =>
    simp only [exec, execResponseTimerExpiry] at h
    exact expiry_effect h fun _ => .responseTimer
  | responderTimerExpiry =>
    simp only [exec, execResponderTimerExpiry] at h
    exact expiry_effect h fun _ => .responderTimer

/-! ### Induction over one step -/

/-- The inversion of `step`: one microsecond passes, or a command or a read runs, its queue shorter by it. -/
theorem step_cases (s t : State) (h : step s = .next t) :
    t = s.tick ∨ ∃ c q m, State.leftBy c { s with pending := q, mgmt := m } t := by
  unfold step at h
  split at h
  · unfold State.idleStep at h
    split at h
    · cases h; exact .inl rfl
    · next a rest _ =>
      exact .inr ⟨.eventPop, s.pending, { s.mgmt with reads := rest },
        happen_effect (f := fun u => u.spiRead a) h (.read a)⟩
  · next c rest _ => exact .inr ⟨c, rest, s.mgmt, exec_leftBy c _ t h⟩

/-- A property that the queues and time passing, every effect and the end of the event keep is kept by a step. -/
theorem step_keeps {P : State → Prop} (queues : ∀ (s : State) q m, P s → P { s with pending := q, mgmt := m })
    (time : ∀ (s : State) x, P s → P { s with events := { s.events with time := x } })
    (effect : ∀ c s u, P s → s.Effect c u → P u) (ends : ∀ s, P s → P (settle s)) (s t : State) (h : P s)
    (hstep : step s = .next t) : P t := by
  rcases step_cases s t hstep with rfl | ⟨c, q, m, rfl | ⟨u, hu, rfl⟩⟩
  · unfold State.tick
    split
    · exact h
    · exact time s _ h
  · exact queues s q m h
  · exact ends u (effect c _ u (queues s q m h) hu)

end Sys2Proof.Machine
end


section
/-! PROOFS. What the end of an event leaves: the frame of `settle`, the settled state and the standing requests. -/

namespace Sys2Proof.Machine

/-! ### Streams whose configuration, session and binding stand -/

/-- Every stream keeps its configuration and its session. -/
def State.sameConfig (s t : State) : Prop :=
  ∀ i, (t.stream i).cfg = (s.stream i).cfg ∧ (t.stream i).session = (s.stream i).session

/-- Every stream keeps its configuration and session too, and is BOUND where it was. -/
def State.sameBinding (s t : State) : Prop :=
  ∀ i, (t.stream i).cfg = (s.stream i).cfg ∧ (t.stream i).session = (s.stream i).session ∧
    ((t.stream i).state = .bound ↔ (s.stream i).state = .bound)

theorem State.sameConfig.refl (s : State) : s.sameConfig s := fun _ => ⟨rfl, rfl⟩

theorem State.sameConfig.trans {s t u : State} (h : s.sameConfig t) (h' : t.sameConfig u) : s.sameConfig u :=
  fun i => ⟨(h' i).1.trans (h i).1, (h' i).2.trans (h i).2⟩

theorem State.sameBinding.trans {s t u : State} (h : s.sameBinding t) (h' : t.sameBinding u) : s.sameBinding u :=
  fun i => ⟨(h' i).1.trans (h i).1, (h' i).2.1.trans (h i).2.1, (h' i).2.2.trans (h i).2.2⟩

theorem State.sameBinding.sameConfig {s t : State} (h : s.sameBinding t) : s.sameConfig t :=
  fun i => ⟨(h i).1, (h i).2.1⟩

theorem State.sameBinding_of_streams {s t : State} (h : t.streams = s.streams) : s.sameBinding t := by
  intro i
  rw [State.stream_of_streams s t h i]
  exact ⟨rfl, rfl, Iff.rfl⟩

theorem State.sameConfig_modStream (s : State) (i : StreamId) (f : Stream → Stream)
    (hc : (f (s.stream i)).cfg = (s.stream i).cfg) (hs : (f (s.stream i)).session = (s.stream i).session) :
    s.sameConfig (s.modStream i f) := by
  intro j
  by_cases h : j = i
  · subst h; simp [hc, hs]
  · simp [State.stream_modStream_ne s i j f h]

theorem State.sameBinding_modStream (s : State) (i : StreamId) (f : Stream → Stream)
    (hc : (f (s.stream i)).cfg = (s.stream i).cfg) (hs : (f (s.stream i)).session = (s.stream i).session)
    (hb : (f (s.stream i)).state = .bound ↔ (s.stream i).state = .bound) : s.sameBinding (s.modStream i f) := by
  intro j
  by_cases h : j = i
  · subst h; simp [hc, hs, hb]
  · simp [State.stream_modStream_ne s i j f h]

theorem State.sameConfig_changeState (s : State) (i : StreamId) (x : StreamState) (c : Cause) (r : Reason) :
    s.sameConfig (s.changeState i x c r) :=
  State.sameConfig_modStream s i (fun y => { y with state := x, cause := c, reason := r }) rfl rfl

theorem State.sameBinding_changeState (s : State) (i : StreamId) (x : StreamState) (c : Cause) (r : Reason)
    (h : x = .bound ↔ (s.stream i).state = .bound) : s.sameBinding (s.changeState i x c r) :=
  State.sameBinding_modStream s i (fun y => { y with state := x, cause := c, reason := r }) rfl rfl h

theorem State.sameBinding_mark (s : State) (i : StreamId) (g : Nat) : s.sameBinding (s.mark i g) := by
  have marked := State.sameBinding_modStream s i (·.markDirty g) rfl rfl Iff.rfl
  unfold State.mark
  split
  · exact marked
  · exact marked
  · exact marked
  · next hact =>
    have aborted := State.sameBinding_of_streams (State.abortAudit_frame (s.modStream i (·.markDirty g)) i).2.2.2.1
    refine (marked.trans aborted).trans (State.sameBinding_changeState _ _ _ _ _ ?_)
    rw [((marked.trans aborted) i).2.2, hact]
    decide
  all_goals exact State.sameBinding_of_streams rfl

theorem State.sameBinding_markLine (s : State) (i : StreamId) (l : LineIndex) : s.sameBinding (s.markLine i l) :=
  s.sameBinding_mark i _

theorem State.sameBinding_create (s : State) (i : StreamId) (n : Nat) (l : List Nat) (r : Record) :
    s.sameBinding (s.create i n l r) := by
  have appended := State.sameBinding_modStream { s with pool := { s.pool with freeList := l } } i
    (·.append { r with slot := n }) rfl rfl Iff.rfl
  exact appended.trans (State.sameBinding_of_streams (State.poolFell_frame _).2.2.1)

theorem State.sameBinding_offer (s : State) (i : StreamId) (l : LineIndex) (p : Payload) :
    s.sameBinding (s.offer i l p).2 := by
  unfold State.offer
  split
  · exact State.sameBinding_modStream s i _ rfl rfl Iff.rfl
  · split
    · split
      · exact State.sameBinding_create s i _ _ _
      · exact State.sameBinding_of_streams rfl
    · exact State.sameBinding_of_streams rfl

/-- The taking of a head rebinds and configures no stream. -/
theorem State.TakenTo.sameBinding {s t : State} {r : SpRequest} (h : s.TakenTo r t) : s.sameBinding t := by
  cases h with
  | answered | plain | refused => exact State.sameBinding_of_streams (by simp)
  | tracked i =>
    have forwarded : (s.forwardTracked r i).streams = (s.markLine i ((s.stream i).cfg.lineIndex r.addr)).streams := by
      simp [State.forwardTracked]
    exact (s.sameBinding_markLine i _).trans (State.sameBinding_of_streams forwarded)
  | placed i slot line p h => exact (s.sameBinding_offer i line p).trans (State.sameBinding_of_streams (by simp))
  | held k i lanes =>
    exact State.sameBinding_modStream (s.setHold k _) i
      (fun x => { x with sendList := x.sendList.map Record.noDeadline }) rfl rfl Iff.rfl

theorem Stream.startGranule_frame (st : Stream) :
    st.startGranule = { st with copyPos := st.startGranule.copyPos, dirty := st.startGranule.dirty } := by
  unfold Stream.startGranule
  split <;> rfl

theorem State.sameBinding_startGranule (s : State) (i : StreamId) :
    s.sameBinding (s.modStream i Stream.startGranule) := by
  refine State.sameBinding_modStream s i _ ?_ ?_ ?_ <;> rw [Stream.startGranule_frame]

theorem State.sameBinding_searchOver (l : List StreamId) (s : State) : s.sameBinding (s.searchOver l) := by
  induction l generalizing s with
  | nil => exact State.sameBinding_of_streams rfl
  | cons i rest ih =>
    unfold State.searchOver
    dsimp only
    split
    · refine (s.sameBinding_startGranule i).trans ?_
      split
      · exact State.sameBinding_of_streams (by simp)
      · exact ih _
    · exact ih s

theorem State.sameBinding_serviceSearch (s : State) : s.sameBinding s.serviceSearch := by
  unfold State.serviceSearch
  split
  · exact State.sameBinding_searchOver _ s
  · exact State.sameBinding_of_streams rfl

/-! ### The retirement of an Apply Queue entry -/

theorem State.sameConfig_leaveBound (s : State) (i : StreamId) (x : StreamState) (c : Cause) (r : Reason) :
    s.sameConfig (s.leaveBound i x c r) := by
  let u := (s.staleEntries i).modStream i Stream.clearReceive
  have cleared : s.sameConfig u := State.sameConfig_modStream (s.staleEntries i) i _ rfl rfl
  have refused : u.sameConfig (u.refuseResponder i) :=
    (State.sameBinding_of_streams (State.refuseResponder_frame u i).2.2.2.1).sameConfig
  exact (cleared.trans refused).trans (State.sameConfig_changeState _ i x c r)

/-- The head entry leaves the Apply Queue, and its credit is pending return (R105, R106). -/
def State.headPopped (s : State) : State :=
  ({ s with apply := { s.apply with queue := s.apply.queue.tail } }).creditPending

/-- What the retirement of the head entry can leave (R106, R107). -/
theorem State.retire_cases (s : State) (e : ApplyEntry) (o : ApplyOutcome) :
    s.retire e o = s.headPopped ∨ s.retire e o = s.headPopped.applyError e ∨
      s.retire e o = s.headPopped.retireOkay e ∨ s.retire e o = s.headPopped.refuseApply e := by
  unfold State.retire
  dsimp only
  split
  · cases o
    · exact .inl rfl
    · exact .inr (.inl rfl)
    · exact .inl rfl
  · cases o
    · exact .inr (.inr (.inl rfl))
    · exact .inr (.inr (.inr rfl))
    · exact .inl rfl

theorem State.sameConfig_retire (s : State) (e : ApplyEntry) (o : ApplyOutcome) : s.sameConfig (s.retire e o) := by
  have popped : s.sameConfig s.headPopped := (State.sameBinding_of_streams (by simp [State.headPopped])).sameConfig
  rcases s.retire_cases e o with h | h | h | h <;> rw [h] <;> refine popped.trans ?_
  · exact .refl _
  · exact (State.sameBinding_of_streams (by simp)).sameConfig
  · unfold State.retireOkay
    refine .trans ?_ (State.sameBinding_of_streams (State.responderApplied_frame _ _ _ _).2.2.2.1).sameConfig
    exact State.sameConfig_modStream s.headPopped e.stream _ rfl rfl
  · unfold State.refuseApply
    refine .trans ?_ (State.sameConfig_leaveBound _ _ _ _ _)
    exact .trans (State.sameBinding_of_streams (by simp)).sameConfig
      (State.sameConfig_modStream (s.headPopped.applyError e) e.stream _ rfl rfl)

/-- The end of an event configures no stream and gives none a new session. -/
theorem settle_sameConfig (s : State) : s.sameConfig (settle s) := by
  refine EndKeeps.settled (P := fun t => s.sameConfig t) ⟨?_, ?_, ?_, ?_, ?_, ?_, ?_, ?_⟩ s (.refl s)
  · exact fun t h => h
  · exact fun t e o h => h.trans (t.sameConfig_retire e o)
  · exact fun t h => h.trans (State.sameBinding_of_streams (by simp)).sameConfig
  · exact fun t r u h ht => h.trans ht.sameBinding.sameConfig
  · exact fun t w h => h
  · exact fun t h => h.trans t.sameBinding_serviceSearch.sameConfig
  · exact fun t n h => h
  · exact fun t h => h

/-! ### The link and the Memory Port over the end of an event -/

theorem State.sameLinkButRequests_trans {s t u : State} (h : s.sameLinkButRequests t) (h' : t.sameLinkButRequests u) :
    s.sameLinkButRequests u := by
  unfold State.sameLinkButRequests at *
  rw [h', h]

theorem State.sameLinkButRequests_of_link {s t : State} (h : t.link = s.link) : s.sameLinkButRequests t := by
  unfold State.sameLinkButRequests
  rw [h]

theorem State.sameLinkButRequests_request4 (s : State) (q : AuditReq) : s.sameLinkButRequests (s.request4 q) := by
  unfold State.request4
  split
  · exact State.sameLinkButRequests_of_link rfl
  · rfl

theorem State.sameLinkButRequests_refuseResponder (s : State) (i : StreamId) :
    s.sameLinkButRequests (s.refuseResponder i) := by
  unfold State.refuseResponder
  split
  · exact State.sameLinkButRequests_request4 _ _
  · exact State.sameLinkButRequests_of_link rfl

theorem State.sameLinkButRequests_leaveBound (s : State) (i : StreamId) (x : StreamState) (c : Cause) (r : Reason) :
    s.sameLinkButRequests (s.leaveBound i x c r) :=
  State.sameLinkButRequests_trans
    (State.sameLinkButRequests_of_link (t := (s.staleEntries i).modStream i Stream.clearReceive) rfl)
    (State.sameLinkButRequests_refuseResponder _ i)

theorem State.sameLinkButRequests_retire (s : State) (e : ApplyEntry) (o : ApplyOutcome) :
    s.sameLinkButRequests (s.retire e o) := by
  have popped : s.headPopped.link = s.link := by simp [State.headPopped]
  rcases s.retire_cases e o with h | h | h | h <;> rw [h]
  · exact State.sameLinkButRequests_of_link popped
  · exact State.sameLinkButRequests_of_link (by simpa using popped)
  · exact State.sameLinkButRequests_of_link (by simpa using popped)
  · exact State.sameLinkButRequests_trans (State.sameLinkButRequests_of_link (by simpa using popped))
      (State.sameLinkButRequests_leaveBound _ _ _ _ _)

theorem State.TakenTo.link {s t : State} {r : SpRequest} (h : s.TakenTo r t) : t.link = s.link := by
  cases h <;> simp

theorem State.TakenTo.mp {s t : State} {r : SpRequest} (h : s.TakenTo r t) :
    t.mp = { s.mp with throughQueue := t.mp.throughQueue } := by
  have forwarded (u : State) (w : WriteUse) : (u.forward r w).mp =
      { u.mp with throughQueue := (u.forward r w).mp.throughQueue } := by
    unfold State.forward
    split <;> rfl
  cases h with
  | answered | refused | held => simp
  | plain => exact forwarded s _
  | tracked i => exact (forwarded _ _).trans (by simp [State.forwardTracked])
  | placed i slot line p h => exact (forwarded _ _).trans (by simp)

theorem settle_sameLinkButRequests (s : State) : s.sameLinkButRequests (settle s) := by
  refine EndKeeps.settled (P := fun t => s.sameLinkButRequests t) ⟨?_, ?_, ?_, ?_, ?_, ?_, ?_, ?_⟩ s
    (State.sameLinkButRequests_of_link rfl)
  · exact fun t h => h
  · exact fun t e o h => State.sameLinkButRequests_trans h (t.sameLinkButRequests_retire e o)
  · exact fun t h => State.sameLinkButRequests_trans h (State.sameLinkButRequests_of_link (by simp))
  · exact fun t r u h ht => State.sameLinkButRequests_trans h (State.sameLinkButRequests_of_link ht.link)
  · exact fun t w h => h
  · exact fun t h => State.sameLinkButRequests_trans h (State.sameLinkButRequests_of_link (by simp))
  · exact fun t n h => h
  · exact fun t h => State.sameLinkButRequests_trans h rfl

theorem settle_mp (s : State) : (settle s).mp = { s.mp with throughQueue := (settle s).mp.throughQueue } := by
  refine EndKeeps.settled (P := fun t => t.mp = { s.mp with throughQueue := t.mp.throughQueue })
    ⟨?_, ?_, ?_, ?_, ?_, ?_, ?_, ?_⟩ s rfl
  · exact fun t h => h
  · exact fun t e o h => by simpa using h
  · exact fun t h => by simpa using h
  · intro t r u h ht
    rw [ht.mp, State.dropHead_mp, h]
  · exact fun t w h => h
  · exact fun t h => by simpa using h
  · exact fun t n h => h
  · exact fun t h => h

/-! ### What is owed -/

theorem State.drainHead_owed (n : Nat) (s : State) (h : s.owed = []) : (State.drainHead n s).owed = [] :=
  State.drainHead_keeps (P := fun t => t.owed = []) (fun _ _ _ _ _ => by simp) (fun _ _ h => by simpa using h) n s h

theorem State.searchAndDrain_owed (s : State) (h : s.owed = []) : s.searchAndDrain.owed = [] := by
  unfold State.searchAndDrain
  dsimp only
  split
  · split
    · simpa using State.drainHead_owed _ _ (by simpa using h)
    · simpa using State.drainHead_owed _ { s with choices := s.choices + 1 } h
  · simpa using State.drainHead_owed _ _ h

theorem settle_owed (s : State) : (settle s).owed = [] := by
  unfold settle
  split
  · rfl
  · simpa using State.searchAndDrain_owed _ (State.flushOwed_owed _)

theorem putOwed_eq_foldl (l : List OwedEvent) (s : State) :
    putOwed l s = l.foldl (fun u o => u.put .streamState (some o.stream) o.detail) s := by
  induction l generalizing s with
  | nil => rfl
  | cons o rest ih => exact ih _

/-- The Event Queue after the owed entries are put, in ascending stream number (R49). -/
theorem State.flushOwed_events (s : State) :
    s.flushOwed.events = ((allStreams.flatMap (fun i => s.owed.filter (fun o => o.stream == i))).foldl
      (fun u o => u.put .streamState (some o.stream) o.detail) s).events := by
  rw [← putOwed_eq_foldl]
  rfl

/-- An empty channel has no head to drain. -/
theorem State.drainHead_of_empty (n : Nat) (s : State) (h : s.sp.channel = []) :
    State.drainHead (n + 1) s = s.setSlotWait none := by
  simp only [State.drainHead, h]

theorem State.searchAndDrain_of_empty (s : State) (h : s.sp.channel = []) :
    s.searchAndDrain = (s.setSlotWait none).serviceSearch := by
  have closed : s.orderOpen = false := by simp [State.orderOpen, h]
  simp only [State.searchAndDrain, closed, Bool.false_eq_true, if_false, State.drainHead_of_empty _ s h]

theorem settle_events_of_rest (s : State) (hch : s.sp.channel = []) (hrest : s.applyRest) :
    (settle s).events = s.flushOwed.events := by
  unfold settle
  split
  · rfl
  · rw [State.applyPass_of_rest _ s hrest, State.searchAndDrain_of_empty _ (by simpa using hch)]
    simp

/-- Settles O12: each part of the end of an event keeps these, and what is owed is put in stream order. -/
theorem endOfEventFrame : Obligations.EndOfEventFrame := by
  intro s
  obtain ⟨hw, hm, hg, hsoft, hreset, hout, hpend⟩ := settle_frame s
  refine ⟨hw, hm, hg, hsoft, hreset, hout, hpend, settle_owed s, settle_sameLinkButRequests s, settle_mp s,
    settle_sameConfig s, ?_⟩
  intro hch hrest
  rw [settle_events_of_rest s hch hrest, State.flushOwed_events]

/-! ### The settled state -/

/-- Whether an entry is stale follows from its stream's binding and session. -/
theorem State.entryStale_of_sameBinding {s t : State} (h : s.sameBinding t) (e : ApplyEntry) :
    t.entryStale e = s.entryStale e := by
  obtain ⟨-, hses, hbound⟩ := h e.stream
  have state : ((t.stream e.stream).state != .bound) = ((s.stream e.stream).state != .bound) := by
    by_cases hb : (s.stream e.stream).state = .bound
    · simp [hb, hbound.mpr hb]
    · have hb' := fun h => hb (hbound.mp h)
      rw [bne_iff_ne.mpr hb, bne_iff_ne.mpr hb']
  simp only [State.entryStale, state, hses]

theorem State.passEntries_of_sameBinding {s t : State} (h : s.sameBinding t) (l : List ApplyEntry) :
    t.passEntries l = s.passEntries l := by
  induction l with
  | nil => rfl
  | cons e rest ih => simp only [State.passEntries, State.entryStale_of_sameBinding h e, ih]

/-- An Apply Queue at rest stays so while no stream is rebound. -/
theorem State.applyRest_of_sameBinding {s t : State} (h : s.sameBinding t) (happly : t.apply = s.apply)
    (hrest : s.applyRest) : t.applyRest := by
  unfold State.applyRest at *
  rw [happly, State.passEntries_of_sameBinding h]
  exact hrest

theorem State.passEntries_length (s : State) (l : List ApplyEntry) : (s.passEntries l).length = l.length := by
  induction l with
  | nil => rfl
  | cons e rest ih =>
    unfold State.passEntries
    repeat' split
    all_goals simp [ih]

/-- The issue point passes in one go what it can. -/
theorem State.passEntries_idem (s : State) (l : List ApplyEntry) : s.passEntries (s.passEntries l) = s.passEntries l := by
  induction l with
  | nil => rfl
  | cons e rest ih =>
    by_cases hw : e.isWaiting
    · by_cases hs : s.entryStale e
      · have done : ApplyEntry.isWaiting { e with progress := .done .skipped } = false := rfl
        simp only [State.passEntries, hw, hs, if_true, done, Bool.false_eq_true, if_false, ih]
      · by_cases hv : e.kind = .void
        · have done : ApplyEntry.isWaiting { e with progress := .done .okay } = false := rfl
          simp only [State.passEntries, hw, hs, if_pos hv, if_true, done, Bool.false_eq_true, if_false, ih]
        · simp only [State.passEntries, hw, hs, hv, if_true, Bool.false_eq_true, if_false]
    · simp only [State.passEntries, hw, Bool.false_eq_true, if_false, ih]

/-- Each round of the pass leaves one entry fewer, so a round more than the queue is long leaves nothing to retire. -/
theorem State.applyRest_passIssuePoint (s : State)
    (h : ∀ e rest, s.passIssuePoint.apply.queue = e :: rest → e.isDone = false) : s.passIssuePoint.applyRest :=
  ⟨(State.passEntries_of_sameBinding (State.sameBinding_of_streams (by simp)) _).trans (s.passEntries_idem _), h⟩

theorem State.creditPending_queue (s : State) : s.creditPending.apply.queue = s.apply.queue := by
  unfold State.creditPending
  split <;> rfl

theorem State.retire_queue_length (s : State) (e : ApplyEntry) (o : ApplyOutcome) :
    (s.retire e o).apply.queue.length = s.apply.queue.length - 1 := by
  have popped : s.headPopped.apply.queue.length = s.apply.queue.length - 1 := by
    simp [State.headPopped, State.creditPending_queue]
  have stale (u : State) (i : StreamId) : (u.staleEntries i).apply.queue.length = u.apply.queue.length := by
    simp [State.staleEntries]
  rcases s.retire_cases e o with h | h | h | h <;> rw [h, ← popped]
  · simp
  · simp
  · simp [State.refuseApply, State.leaveBound, stale]

theorem State.applyPass_rest (n : Nat) (s : State) (h : s.apply.queue.length < n) : (State.applyPass n s).applyRest := by
  induction n generalizing s with
  | zero => omega
  | succ n ih =>
    have len : s.passIssuePoint.apply.queue.length = s.apply.queue.length := s.passEntries_length _
    unfold State.applyPass
    dsimp only
    split
    · next hq => exact s.applyRest_passIssuePoint (by simp [hq])
    · next e rest hq =>
      split
      · refine ih _ ?_
        rw [State.retire_queue_length]
        rw [hq] at len ⊢
        simp only [List.length_cons] at len ⊢
        omega
      all_goals
        next hp =>
        refine s.applyRest_passIssuePoint fun e' rest' he => ?_
        rw [hq] at he
        cases he
        simp [ApplyEntry.isDone, hp]

/-- A stream table written with what it holds is unchanged. -/
theorem State.setStream_self (s : State) (i : StreamId) : s.setStream i (s.stream i) = s := by
  have same : s.streams.set i.val (s.streams.get i) i.isLt = s.streams := by
    apply streams_ext
    intro j
    rw [vector_get_set]
    split
    · next h => rw [h]
    · rfl
  show { s with streams := s.streams.set i.val (s.streams.get i) i.isLt } = s
  rw [same]

theorem State.modStream_self (s : State) (i : StreamId) (f : Stream → Stream) (h : f (s.stream i) = s.stream i) :
    s.modStream i f = s := by
  unfold State.modStream
  rw [h, s.setStream_self]

theorem Stream.startGranule_idem (st : Stream) : st.startGranule.startGranule = st.startGranule := by
  unfold Stream.startGranule
  cases hp : st.copyPos with
  | some p => simp [hp]
  | none =>
    cases hd : st.dirty with
    | nil => simp [hp, hd]
    | cons g rest => simp

theorem State.searchOver_engine_pointer (l : List StreamId) (s : State) :
    (s.searchOver l).engine.pointer = s.engine.pointer := by
  induction l generalizing s with
  | nil => rfl
  | cons i rest ih =>
    unfold State.searchOver
    dsimp only
    split
    · split
      · unfold State.proceedCopy
        split <;> rfl
      · exact ih _
    · exact ih s

/-- Where the slot test has held, the engine leaves IDLE (R130). -/
theorem State.proceedCopy_not_idle (s : State) (i : StreamId) : (s.proceedCopy i).engine.state ≠ .idle := by
  unfold State.proceedCopy
  split <;> simp [State.setEngine]

/-- The slot test reads the free count and, of each stream, its configuration, state and send list. -/
theorem State.slotAllowed_congr {s t : State} (hpool : t.pool.freeList = s.pool.freeList)
    (h : ∀ k, (t.stream k).cfg = (s.stream k).cfg ∧ (t.stream k).state = (s.stream k).state ∧
      (t.stream k).sendList = (s.stream k).sendList) (i : StreamId) : t.slotAllowed i = s.slotAllowed i := by
  have free : t.freeCount = s.freeCount := congrArg List.length hpool
  have usage (k : StreamId) : (t.stream k).usage = (s.stream k).usage := congrArg List.length (h k).2.2
  have demand : t.outsideDemand i = s.outsideDemand i := by
    unfold State.outsideDemand
    refine congrArg List.sum (List.map_congr_left fun k _ => ?_)
    rw [(h k).1, (h k).2.1, usage]
  unfold State.slotAllowed
  rw [free, demand, usage, (h i).1, (h i).2.2]

theorem State.slotAllowed_startGranule (s : State) (i j : StreamId) :
    (s.modStream i Stream.startGranule).slotAllowed j = s.slotAllowed j := by
  refine State.slotAllowed_congr (s := s) (t := s.modStream i Stream.startGranule) rfl (fun k => ?_) j
  by_cases h : k = i
  · subst h
    rw [State.stream_modStream, Stream.startGranule_frame]
    exact ⟨rfl, rfl, rfl⟩
  · rw [State.stream_modStream_ne s i k _ h]
    exact ⟨rfl, rfl, rfl⟩

/-- The search over a list finds nothing: no served stream of it is allowed a slot, each with its granule started. -/
def State.searchedInVain (s : State) (l : List StreamId) : Prop :=
  ∀ i ∈ l, (s.stream i).served = true → (s.stream i).startGranule = s.stream i ∧ s.slotAllowed i = false

theorem State.searchOver_of_vain (l : List StreamId) (s : State) (h : s.searchedInVain l) : s.searchOver l = s := by
  induction l with
  | nil => rfl
  | cons i rest ih =>
    have tail := ih fun j hj => h j (List.mem_cons_of_mem i hj)
    by_cases hs : (s.stream i).served = true
    · obtain ⟨hg, ha⟩ := h i List.mem_cons_self hs
      simp only [State.searchOver, hs, if_true, State.modStream_self s i _ hg, ha, Bool.false_eq_true, if_false, tail]
    · simp only [State.searchOver, hs, Bool.false_eq_true, if_false, tail]

theorem Stream.served_startGranule (st : Stream) : st.startGranule.served = st.served := by
  rw [Stream.startGranule_frame]; rfl

theorem State.searchedInVain_modStream (l : List StreamId) (s : State) (i : StreamId) (h : s.searchedInVain l) :
    (s.modStream i Stream.startGranule).searchedInVain l := by
  intro j hj hserved
  rw [State.slotAllowed_startGranule]
  by_cases hji : j = i
  · subst hji
    rw [State.stream_modStream, Stream.served_startGranule] at hserved
    rw [State.stream_modStream, Stream.startGranule_idem]
    exact ⟨rfl, (h j hj hserved).2⟩
  · rw [State.stream_modStream_ne s i j _ hji] at hserved ⊢
    exact h j hj hserved

/-- A search leaves the engine out of IDLE, or it was in vain. -/
theorem State.searchOver_result (l done : List StreamId) (s : State) (hdone : s.searchedInVain done) :
    (s.searchOver l).engine.state ≠ .idle ∨ (s.searchOver l).searchedInVain (done ++ l) := by
  induction l generalizing s done with
  | nil => exact .inr (by simpa [State.searchOver] using hdone)
  | cons i rest ih =>
    rw [List.append_cons]
    have step (u : State) (hu : u.searchedInVain done)
        (hi : (u.stream i).served = true → (u.stream i).startGranule = u.stream i ∧ u.slotAllowed i = false) :
        u.searchedInVain (done ++ [i]) := by
      intro j hj
      rcases List.mem_append.mp hj with hj | hj
      · exact hu j hj
      · rw [List.mem_singleton.mp hj]; exact hi
    rw [State.searchOver.eq_2]
    dsimp only
    split
    · next hs =>
      split
      · exact .inl (State.proceedCopy_not_idle _ i)
      · next ha =>
        refine ih _ _ (step _ (s.searchedInVain_modStream done i hdone) fun _ => ⟨?_, by simpa using ha⟩)
        rw [State.stream_modStream, Stream.startGranule_idem]
    · next hs => exact ih _ s (step s hdone fun h => absurd h hs)

/-- A service search made twice serves no more than once (R128). -/
theorem State.serviceSearch_idem (s : State) : s.serviceSearch.serviceSearch = s.serviceSearch := by
  by_cases h : s.engine.state = .idle ∧ s.softReset = false
  · have first : s.serviceSearch = s.searchOver (cyclicAfter s.engine.pointer) := if_pos h
    rw [first]
    rcases s.searchOver_result (cyclicAfter s.engine.pointer) [] (fun i hi => nomatch hi) with hbusy | hvain
    · exact if_neg fun h' => hbusy h'.1
    · have again : (s.searchOver (cyclicAfter s.engine.pointer)).searchOver (cyclicAfter s.engine.pointer) =
          s.searchOver (cyclicAfter s.engine.pointer) := State.searchOver_of_vain _ _ hvain
      unfold State.serviceSearch
      rw [State.searchOver_engine_pointer, again]
      exact ite_self _
  · have none : s.serviceSearch = s := if_neg h
    rw [none, none]

theorem State.searchAndDrain_searched (s : State) : s.searchAndDrain.serviceSearch = s.searchAndDrain := by
  unfold State.searchAndDrain
  dsimp only
  split
  · split <;> exact State.serviceSearch_idem _
  · exact State.serviceSearch_idem _

theorem State.drainHead_sameBinding (n : Nat) (s t : State) (h : s.sameBinding t) : s.sameBinding (State.drainHead n t) := by
  refine State.drainHead_keeps (P := fun u => s.sameBinding u) ?_ (fun u w hu => hu) n t h
  intro u r v hu hv
  have taken : u.sameBinding v := hv.sameBinding
  have flushed : v.sameBinding (v.setSlotWait none).flushOwed := State.sameBinding_of_streams (by simp)
  exact ((hu.trans taken).trans flushed).trans (State.sameBinding_serviceSearch _)

theorem State.searchAndDrain_sameBinding (s : State) : s.sameBinding s.searchAndDrain := by
  have counted : s.sameBinding { s with choices := s.choices + 1 } := State.sameBinding_of_streams rfl
  unfold State.searchAndDrain
  dsimp only
  split
  · split
    · exact (State.drainHead_sameBinding _ s _ (counted.trans (State.sameBinding_serviceSearch _))).trans
        (State.sameBinding_serviceSearch _)
    · exact (State.drainHead_sameBinding _ s _ counted).trans (State.sameBinding_serviceSearch _)
  · exact (State.drainHead_sameBinding _ s _ (State.sameBinding_of_streams rfl)).trans
      (State.sameBinding_serviceSearch _)

/-- The state u with the parts of s that the service search reads. -/
def State.searchPartsIn (s u : State) : State :=
  { u with streams := s.streams, engine := s.engine, pool := s.pool, mp := s.mp, softReset := s.softReset }

/-- The service search reads and changes those parts alone. -/
theorem State.searchOver_searchPartsIn (l : List StreamId) (s u : State) :
    (s.searchPartsIn u).searchOver l = (s.searchOver l).searchPartsIn u := by
  induction l generalizing s with
  | nil => rfl
  | cons i rest ih =>
    have started : (s.searchPartsIn u).modStream i Stream.startGranule =
      (s.modStream i Stream.startGranule).searchPartsIn u := rfl
    have proceeds (v : State) : (v.searchPartsIn u).proceedCopy i = (v.proceedCopy i).searchPartsIn u := by
      unfold State.proceedCopy
      rw [apply_ite (fun w : State => w.searchPartsIn u)]
      rfl
    have served : ((s.searchPartsIn u).stream i).served = (s.stream i).served := rfl
    have allowed (v : State) : (v.searchPartsIn u).slotAllowed i = v.slotAllowed i := rfl
    simp only [State.searchOver, served, started, allowed, proceeds, ih]
    split
    · split <;> rfl
    · rfl

theorem State.serviceSearch_searchPartsIn (s u : State) :
    (s.searchPartsIn u).serviceSearch = s.serviceSearch.searchPartsIn u := by
  unfold State.serviceSearch
  rw [apply_ite (fun v : State => v.searchPartsIn u), ← State.searchOver_searchPartsIn]
  rfl

/-- A settled state stays settled where nothing is owed and the Apply Queue and what the search reads stand. -/
theorem State.settled_of_searchParts {s t : State} (h : s.settled) (howed : t.owed = []) (happly : t.apply = s.apply)
    (hparts : t = s.searchPartsIn t) : t.settled := by
  obtain ⟨-, hrest, hsearch⟩ := h
  have streams : t.streams = s.streams := by rw [hparts]; rfl
  refine ⟨howed, State.applyRest_of_sameBinding (State.sameBinding_of_streams streams) happly hrest, ?_⟩
  calc t.serviceSearch = (s.searchPartsIn t).serviceSearch := congrArg State.serviceSearch hparts
    _ = s.searchPartsIn t := by rw [State.serviceSearch_searchPartsIn, hsearch]
    _ = t := hparts.symm

/-- The end of an event leaves a live state settled (log 4). -/
theorem settle_settled (s : State) (h : s.live) : (settle s).settled := by
  obtain ⟨hreset, hsoft⟩ := h
  rw [settle_live s hsoft hreset]
  let u := (State.applyPass (s.apply.queue.length + 1) s).flushOwed
  suffices settled : u.searchAndDrain.settled from State.settled_of_searchParts settled settled.1 rfl rfl
  refine ⟨?_, ?_, u.searchAndDrain_searched⟩
  · exact State.searchAndDrain_owed u rfl
  · have rest : u.applyRest :=
      State.applyRest_of_sameBinding (State.sameBinding_of_streams (by simp [u])) (by simp [u])
        (State.applyPass_rest _ s (Nat.lt_succ_self _))
    exact State.applyRest_of_sameBinding u.searchAndDrain_sameBinding (by simp) rest

theorem settle_settledWhenLive (s : State) : (settle s).settledWhenLive := by
  rintro ⟨hreset, hsoft⟩
  obtain ⟨-, -, -, hsoft', hreset', -, -⟩ := settle_frame s
  exact settle_settled s ⟨hreset' ▸ hreset, hsoft' ▸ hsoft⟩

/-- Settles O9: a command ends in `settle` or changes nothing, and nothing settled reads the queues or the time. -/
theorem settledKept : Obligations.SettledKept := by
  intro s t hs h
  rcases step_cases s t h with rfl | ⟨-, q, m, rfl | ⟨u, -, rfl⟩⟩
  · unfold State.tick
    split
    · exact hs
    · exact fun hlive => State.settled_of_searchParts (hs hlive) (hs hlive).1 rfl rfl
  · exact fun hlive => State.settled_of_searchParts (hs hlive) (hs hlive).1 rfl rfl
  · exact settle_settledWhenLive u

/-! ### Standing requests -/

theorem mem_standing {α : Type} [BEq α] [LawfulBEq α] (old all : List α) (wants : α → Bool) (q : α) :
    q ∈ standing old all wants ↔ wants q = true ∧ (q ∈ old ∨ q ∈ all) := by
  unfold standing
  by_cases hw : wants q = true <;> by_cases ho : q ∈ old <;> simp [hw, ho]

theorem mem_allStreams (i : StreamId) : i ∈ allStreams := by
  revert i; decide

theorem mem_all2 (q : AckNakReq) : q ∈ all2 := by
  cases q <;> simp [all2, mem_allStreams]

theorem openDue_mem_all3 (i : StreamId) : HandshakeReq.openDue i ∈ all3 := by simp [all3, mem_allStreams]

theorem closeDue_mem_all3 (i : StreamId) : HandshakeReq.closeDue i ∈ all3 := by simp [all3, mem_allStreams]

theorem mem_order4 (swap : Bool) (q : AuditReq) : q ∈ order4 swap := by
  revert swap q; rintro (_ | _) (_ | _ | _) <;> decide

/-- Every class-4 request that has something to send has its stream, so it has its place among all. -/
theorem State.mem_all4_of_wants (s : State) (swap : Bool) (q : AuditReq) (h : s.wants4 q = true) : q ∈ s.all4 swap := by
  obtain ⟨i, hi⟩ : ∃ i, s.stream4 q = some i := by
    cases q with
    | dgq => exact ⟨_, rfl⟩
    | dgrResult =>
      obtain ⟨a, ha⟩ := Option.isSome_iff_exists.mp h
      exact ⟨a.stream, by simp [State.stream4, ha]⟩
    | dgrImmediate =>
      obtain ⟨a, ha⟩ := Option.isSome_iff_exists.mp h
      exact ⟨a.stream, by simp [State.stream4, ha]⟩
  simp only [State.all4, List.mem_flatMap, List.mem_filter]
  exact ⟨i, mem_allStreams i, mem_order4 swap q, by simp [hi]⟩

theorem State.mem_class2_refreshRequests (s : State) (q : AckNakReq) :
    q ∈ s.refreshRequests.link.class2 ↔ s.wants2 q = true := by
  simp [State.refreshRequests, mem_standing, mem_all2]

theorem State.mem_class3_refreshRequests (s : State) (q : HandshakeReq) (h : q ∈ all3) :
    q ∈ s.refreshRequests.link.class3 ↔ s.wants3 q = true := by
  simp [State.refreshRequests, mem_standing, h]

theorem State.mem_class4_refreshRequests (s : State) (q : AuditReq) (h : s.link.state = .up) :
    q ∈ s.refreshRequests.link.class4 ↔ s.wants4 q = true := by
  simp only [State.refreshRequests, mem_standing, h, if_true, and_iff_left_iff_imp]
  exact fun hw => .inr (s.mem_all4_of_wants _ q hw)

/-- The requests standing after an event are those wanted of the state it leaves. -/
theorem State.standing_refreshRequests (s : State) :
    (∀ i, .ack i ∈ s.refreshRequests.link.class2 ↔ 0 < (s.stream i).ackCount) ∧
    (∀ i, .nak i ∈ s.refreshRequests.link.class2 ↔ (s.stream i).nakSlot ≠ none) ∧
    (∀ i, .openDue i ∈ s.refreshRequests.link.class3 ↔ s.link.state = .up ∧ (s.stream i).state = .opening ∧
      (s.stream i).handshakeDue = true) ∧
    (∀ i, .closeDue i ∈ s.refreshRequests.link.class3 ↔ s.link.state = .up ∧ (s.stream i).state = .closing ∧
      (s.stream i).handshakeDue = true) ∧
    (s.link.state = .up →
      (.dgq ∈ s.refreshRequests.link.class4 ↔
        s.audit.initiator.state = .waiting ∧ s.audit.initiator.dgqDue = true) ∧
      (.dgrResult ∈ s.refreshRequests.link.class4 ↔ s.audit.resultSlot ≠ none) ∧
      (.dgrImmediate ∈ s.refreshRequests.link.class4 ↔ s.audit.immediateSlot ≠ none)) := by
  refine ⟨fun i => ?_, fun i => ?_, fun i => ?_, fun i => ?_, fun hup => ⟨?_, ?_, ?_⟩⟩
  · simp [State.mem_class2_refreshRequests, State.wants2, State.ackWanted]
  · simp [State.mem_class2_refreshRequests, State.wants2, State.nakWanted, Option.isSome_iff_ne_none]
  · simp [s.mem_class3_refreshRequests _ (openDue_mem_all3 i), State.wants3, State.openWanted, and_assoc]
  · simp [s.mem_class3_refreshRequests _ (closeDue_mem_all3 i), State.wants3, State.closeWanted, and_assoc]
  · simp [s.mem_class4_refreshRequests _ hup, State.wants4]
  · simp [s.mem_class4_refreshRequests _ hup, State.wants4, Option.isSome_iff_ne_none]
  · simp [s.mem_class4_refreshRequests _ hup, State.wants4, Option.isSome_iff_ne_none]

/-- Settles O13: the end of the event recomputes the three classes from the streams and the Audit Unit. -/
theorem standingRequests : Obligations.StandingRequests := by
  rintro s ⟨hreset, hsoft⟩
  rw [settle_live s hsoft hreset]
  exact State.standing_refreshRequests _

end Sys2Proof.Machine
end


section
/-! PROOFS. What the remaining operations leave unchanged: one lemma per operation, its parts used by simp. -/

namespace Sys2Proof.Machine

/-! ### The System Port and the Gate Unit -/

@[simp] theorem State.deliverResponse_frame (s : State) :
    s.deliverResponse.windows = s.windows ∧ s.deliverResponse.pool = s.pool ∧ s.deliverResponse.streams = s.streams ∧
    s.deliverResponse.link = s.link ∧ s.deliverResponse.apply = s.apply ∧ s.deliverResponse.holds = s.holds ∧
    s.deliverResponse.events = s.events := by
  unfold State.deliverResponse; repeat' split
  all_goals simp

@[simp] theorem State.slotWaitExpired_frame (s : State) :
    s.slotWaitExpired.windows = s.windows ∧ s.slotWaitExpired.pool = s.pool ∧ s.slotWaitExpired.link = s.link ∧
    s.slotWaitExpired.apply = s.apply ∧ s.slotWaitExpired.holds = s.holds := by
  unfold State.slotWaitExpired; repeat' split
  all_goals simp

@[simp] theorem State.combineExpired_frame (s : State) (i : StreamId) :
    (s.combineExpired i).windows = s.windows ∧ (s.combineExpired i).pool = s.pool ∧
    (s.combineExpired i).link = s.link ∧ (s.combineExpired i).apply = s.apply ∧
    (s.combineExpired i).holds = s.holds ∧ (s.combineExpired i).events = s.events := by
  simp [State.combineExpired]

@[simp] theorem State.holdExpired_frame (s : State) (k : Fin 4) :
    (s.holdExpired k).windows = s.windows ∧ (s.holdExpired k).pool = s.pool ∧ (s.holdExpired k).streams = s.streams ∧
    (s.holdExpired k).link = s.link ∧ (s.holdExpired k).apply = s.apply := by
  unfold State.holdExpired; repeat' split
  all_goals simp

/-! ### The Memory Port -/

@[simp] theorem State.withdrawCopy_frame (s : State) :
    s.withdrawCopy.windows = s.windows ∧ s.withdrawCopy.pool = s.pool ∧ s.withdrawCopy.streams = s.streams ∧
    s.withdrawCopy.link = s.link ∧ s.withdrawCopy.apply = s.apply ∧ s.withdrawCopy.holds = s.holds ∧
    s.withdrawCopy.events = s.events := by
  unfold State.withdrawCopy; repeat' split
  all_goals simp

@[simp] theorem State.passCopy_frame (s : State) :
    s.passCopy.windows = s.windows ∧ s.passCopy.pool = s.pool ∧ s.passCopy.streams = s.streams ∧
    s.passCopy.link = s.link ∧ s.passCopy.apply = s.apply ∧ s.passCopy.holds = s.holds ∧
    s.passCopy.events = s.events := by
  unfold State.passCopy; repeat' split
  all_goals simp

@[simp] theorem State.grantThrough_frame (s : State) :
    s.grantThrough.windows = s.windows ∧ s.grantThrough.pool = s.pool ∧ s.grantThrough.streams = s.streams ∧
    s.grantThrough.link = s.link ∧ s.grantThrough.apply = s.apply ∧ s.grantThrough.holds = s.holds ∧
    s.grantThrough.events = s.events := by
  unfold State.grantThrough; repeat' split
  all_goals simp

@[simp] theorem State.grantCopy_frame (s : State) (r : CopyRead) :
    (s.grantCopy r).windows = s.windows ∧ (s.grantCopy r).pool = s.pool ∧ (s.grantCopy r).streams = s.streams ∧
    (s.grantCopy r).link = s.link ∧ (s.grantCopy r).apply = s.apply ∧ (s.grantCopy r).holds = s.holds ∧
    (s.grantCopy r).events = s.events := by
  simp [State.grantCopy]

@[simp] theorem State.grantInitiator_frame (s : State) :
    s.grantInitiator.windows = s.windows ∧ s.grantInitiator.pool = s.pool ∧ s.grantInitiator.streams = s.streams ∧
    s.grantInitiator.link = s.link ∧ s.grantInitiator.apply = s.apply ∧ s.grantInitiator.holds = s.holds ∧
    s.grantInitiator.events = s.events := by
  simp [State.grantInitiator]

@[simp] theorem State.grantResponder_frame (s : State) :
    s.grantResponder.windows = s.windows ∧ s.grantResponder.pool = s.pool ∧ s.grantResponder.streams = s.streams ∧
    s.grantResponder.link = s.link ∧ s.grantResponder.apply = s.apply ∧ s.grantResponder.holds = s.holds ∧
    s.grantResponder.events = s.events := by
  simp [State.grantResponder]

@[simp] theorem State.grantInternal_frame (s : State) :
    s.grantInternal.windows = s.windows ∧ s.grantInternal.pool = s.pool ∧ s.grantInternal.streams = s.streams ∧
    s.grantInternal.link = s.link ∧ s.grantInternal.holds = s.holds ∧ s.grantInternal.events = s.events := by
  unfold State.grantInternal; repeat' split
  all_goals simp

@[simp] theorem State.mpGrant_frame (s : State) :
    s.mpGrant.windows = s.windows ∧ s.mpGrant.pool = s.pool ∧ s.mpGrant.streams = s.streams ∧
    s.mpGrant.link = s.link ∧ s.mpGrant.holds = s.holds ∧ s.mpGrant.events = s.events := by
  unfold State.mpGrant; dsimp only; repeat' split
  all_goals simp

/-! ### The copy read and the audit reads -/

@[simp] theorem State.copyCreated_frame (s : State) (i : StreamId) :
    (s.copyCreated i).windows = s.windows ∧ (s.copyCreated i).link = s.link ∧ (s.copyCreated i).apply = s.apply := by
  unfold State.copyCreated; dsimp only; repeat' split
  all_goals simp

@[simp] theorem State.copyFailed_frame (s : State) (r : CopyRead) :
    (s.copyFailed r).windows = s.windows ∧ (s.copyFailed r).link = s.link ∧ (s.copyFailed r).apply = s.apply := by
  unfold State.copyFailed; dsimp only; repeat' split
  all_goals simp

@[simp] theorem State.readingEnds_frame (s : State) :
    s.readingEnds.windows = s.windows ∧ s.readingEnds.pool = s.pool ∧ s.readingEnds.streams = s.streams ∧
    s.readingEnds.apply = s.apply ∧ s.readingEnds.holds = s.holds := by
  unfold State.readingEnds; dsimp only; repeat' split
  all_goals simp

@[simp] theorem State.initiatorLine_frame (s : State) (d : LineBytes) :
    (s.initiatorLine d).windows = s.windows ∧ (s.initiatorLine d).pool = s.pool ∧
    (s.initiatorLine d).streams = s.streams ∧ (s.initiatorLine d).apply = s.apply ∧
    (s.initiatorLine d).holds = s.holds := by
  unfold State.initiatorLine; dsimp only; repeat' split
  all_goals simp

@[simp] theorem State.initiatorResponse_frame (s : State) (st : Status) (d : LineBytes) :
    (s.initiatorResponse st d).windows = s.windows ∧ (s.initiatorResponse st d).pool = s.pool ∧
    (s.initiatorResponse st d).streams = s.streams ∧ (s.initiatorResponse st d).apply = s.apply ∧
    (s.initiatorResponse st d).holds = s.holds := by
  unfold State.initiatorResponse; dsimp only; repeat' split
  all_goals simp

@[simp] theorem State.responderEnds_frame (s : State) :
    s.responderEnds.windows = s.windows ∧ s.responderEnds.pool = s.pool ∧ s.responderEnds.streams = s.streams ∧
    s.responderEnds.apply = s.apply ∧ s.responderEnds.holds = s.holds ∧ s.responderEnds.events = s.events := by
  unfold State.responderEnds; repeat' split
  all_goals simp

@[simp] theorem State.responderLine_frame (s : State) (d : LineBytes) :
    (s.responderLine d).windows = s.windows ∧ (s.responderLine d).pool = s.pool ∧
    (s.responderLine d).streams = s.streams ∧ (s.responderLine d).apply = s.apply ∧
    (s.responderLine d).holds = s.holds ∧ (s.responderLine d).events = s.events := by
  unfold State.responderLine; dsimp only; repeat' split
  all_goals simp

@[simp] theorem State.responderResponse_frame (s : State) (st : Status) (d : LineBytes) :
    (s.responderResponse st d).windows = s.windows ∧ (s.responderResponse st d).pool = s.pool ∧
    (s.responderResponse st d).streams = s.streams ∧ (s.responderResponse st d).apply = s.apply ∧
    (s.responderResponse st d).holds = s.holds ∧ (s.responderResponse st d).events = s.events := by
  unfold State.responderResponse; dsimp only; repeat' split
  all_goals simp

@[simp] theorem State.throughUse_frame (s : State) (u : WriteUse) (st : Status) :
    (s.throughUse u st).windows = s.windows ∧ (s.throughUse u st).link = s.link ∧
    (s.throughUse u st).apply = s.apply ∧ (s.throughUse u st).holds = s.holds := by
  unfold State.throughUse; repeat' split
  all_goals simp

/-! ### The link transmit arbiter -/

@[simp] theorem State.sendUp_frame (s : State) (f : Frame) :
    (s.sendUp f).windows = s.windows ∧ (s.sendUp f).pool = s.pool ∧ (s.sendUp f).streams = s.streams ∧
    (s.sendUp f).apply = s.apply ∧ (s.sendUp f).holds = s.holds ∧ (s.sendUp f).events = s.events := by
  simp [State.sendUp]

@[simp] theorem State.grantTrainingHello_frame (s : State) :
    s.grantTrainingHello.windows = s.windows ∧ s.grantTrainingHello.pool = s.pool ∧
    s.grantTrainingHello.streams = s.streams ∧ s.grantTrainingHello.apply = s.apply ∧
    s.grantTrainingHello.holds = s.holds ∧ s.grantTrainingHello.events = s.events := by
  simp [State.grantTrainingHello]

@[simp] theorem State.grantUpHello_frame (s : State) :
    s.grantUpHello.windows = s.windows ∧ s.grantUpHello.pool = s.pool ∧ s.grantUpHello.streams = s.streams ∧
    s.grantUpHello.holds = s.holds ∧ s.grantUpHello.events = s.events := by
  simp [State.grantUpHello]

@[simp] theorem State.grantAck_frame (s : State) (i : StreamId) :
    (s.grantAck i).windows = s.windows ∧ (s.grantAck i).pool = s.pool ∧ (s.grantAck i).holds = s.holds ∧
    (s.grantAck i).events = s.events := by
  simp [State.grantAck]

@[simp] theorem State.grantNak_frame (s : State) (i : StreamId) (n : NakSlot) :
    (s.grantNak i n).windows = s.windows ∧ (s.grantNak i n).pool = s.pool ∧ (s.grantNak i n).holds = s.holds ∧
    (s.grantNak i n).events = s.events := by
  simp [State.grantNak]

@[simp] theorem State.grant2_frame (s : State) (q : AckNakReq) :
    (s.grant2 q).windows = s.windows ∧ (s.grant2 q).pool = s.pool ∧ (s.grant2 q).holds = s.holds ∧
    (s.grant2 q).events = s.events := by
  unfold State.grant2; repeat' split
  all_goals simp

@[simp] theorem State.startHandshake_frame (s : State) (i : StreamId) :
    (s.startHandshake i).windows = s.windows ∧ (s.startHandshake i).pool = s.pool ∧
    (s.startHandshake i).link = s.link ∧ (s.startHandshake i).apply = s.apply ∧
    (s.startHandshake i).holds = s.holds ∧ (s.startHandshake i).events = s.events := by
  simp [State.startHandshake]

@[simp] theorem State.grant3_frame (s : State) (q : HandshakeReq) :
    (s.grant3 q).windows = s.windows ∧ (s.grant3 q).pool = s.pool ∧ (s.grant3 q).apply = s.apply ∧
    (s.grant3 q).holds = s.holds ∧ (s.grant3 q).events = s.events := by
  unfold State.grant3; dsimp only; repeat' split
  all_goals simp

@[simp] theorem State.grant4_frame (s : State) (q : AuditReq) :
    (s.grant4 q).windows = s.windows ∧ (s.grant4 q).pool = s.pool ∧ (s.grant4 q).streams = s.streams ∧
    (s.grant4 q).apply = s.apply ∧ (s.grant4 q).holds = s.holds ∧ (s.grant4 q).events = s.events := by
  unfold State.grant4; dsimp only; repeat' split
  all_goals simp

@[simp] theorem State.takeRecord_frame (s : State) (i : StreamId) (r : Record) :
    (s.takeRecord i r).windows = s.windows ∧ (s.takeRecord i r).pool = s.pool ∧ (s.takeRecord i r).apply = s.apply ∧
    (s.takeRecord i r).holds = s.holds ∧ (s.takeRecord i r).events = s.events := by
  simp [State.takeRecord]

@[simp] theorem State.grantRec_frame (s : State) (i : StreamId) (r : Record) :
    (s.grantRec i r).windows = s.windows ∧ (s.grantRec i r).pool = s.pool ∧ (s.grantRec i r).apply = s.apply ∧
    (s.grantRec i r).holds = s.holds ∧ (s.grantRec i r).events = s.events := by
  simp [State.grantRec]

@[simp] theorem State.grant5_frame (s : State) :
    s.grant5.windows = s.windows ∧ s.grant5.pool = s.pool ∧ s.grant5.apply = s.apply ∧ s.grant5.holds = s.holds ∧
    s.grant5.events = s.events := by
  unfold State.grant5; repeat' split
  all_goals simp

@[simp] theorem State.grantConfirmed_frame (s : State) :
    s.grantConfirmed.windows = s.windows ∧ s.grantConfirmed.pool = s.pool ∧ s.grantConfirmed.holds = s.holds ∧
    s.grantConfirmed.events = s.events := by
  unfold State.grantConfirmed; repeat' split
  all_goals simp

@[simp] theorem State.transmitGrant_frame (s : State) :
    s.transmitGrant.windows = s.windows ∧ s.transmitGrant.pool = s.pool ∧ s.transmitGrant.holds = s.holds ∧
    s.transmitGrant.events = s.events := by
  unfold State.transmitGrant; repeat' split
  all_goals simp

/-! ### Arriving frames -/

@[simp] theorem State.trainingFailed_frame (s : State) :
    s.trainingFailed.windows = s.windows := by
  unfold State.trainingFailed; simp

@[simp] theorem State.disableLink_frame (s : State) :
    s.disableLink.windows = s.windows := by
  unfold State.disableLink; dsimp only; repeat' split
  all_goals simp

@[simp] theorem State.doLinkDisable_frame (s : State) :
    s.doLinkDisable.windows = s.windows := by
  unfold State.doLinkDisable; repeat' split
  all_goals simp

@[simp] theorem State.badFrame_frame (s : State) :
    s.badFrame.windows = s.windows ∧ s.badFrame.pool = s.pool ∧ s.badFrame.holds = s.holds := by
  unfold State.badFrame; dsimp only; repeat' split
  all_goals simp

@[simp] theorem State.unknownKind_frame (s : State) :
    s.unknownKind.windows = s.windows ∧ s.unknownKind.pool = s.pool ∧ s.unknownKind.holds = s.holds := by
  unfold State.unknownKind; repeat' split
  all_goals simp

@[simp] theorem State.queueRec_frame (s : State) (f : RecFrame) (k : RecordKind) :
    (s.queueRec f k).windows = s.windows ∧ (s.queueRec f k).pool = s.pool ∧ (s.queueRec f k).link = s.link ∧
    (s.queueRec f k).holds = s.holds ∧ (s.queueRec f k).events = s.events := by
  simp [State.queueRec]

@[simp] theorem State.refuseRange_frame (s : State) (f : RecFrame) :
    (s.refuseRange f).windows = s.windows ∧ (s.refuseRange f).pool = s.pool ∧ (s.refuseRange f).holds = s.holds ∧
    (s.refuseRange f).events = s.events := by
  simp [State.refuseRange]

@[simp] theorem State.recGap_frame (s : State) (f : RecFrame) :
    (s.recGap f).windows = s.windows ∧ (s.recGap f).pool = s.pool ∧ (s.recGap f).link = s.link ∧
    (s.recGap f).holds = s.holds ∧ (s.recGap f).events = s.events := by
  unfold State.recGap; dsimp only; repeat' split
  all_goals simp

@[simp] theorem State.examineRec_frame (s : State) (f : RecFrame) (k : RecordKind) :
    (s.examineRec f k).windows = s.windows ∧ (s.examineRec f k).pool = s.pool ∧ (s.examineRec f k).holds = s.holds ∧
    (s.examineRec f k).events = s.events := by
  unfold State.examineRec; dsimp only; repeat' split
  all_goals simp

@[simp] theorem State.goBack_frame (s : State) (i : StreamId) (q : Option Seq) :
    (s.goBack i q).windows = s.windows ∧ (s.goBack i q).link = s.link ∧ (s.goBack i q).apply = s.apply := by
  unfold State.goBack; dsimp only; repeat' split
  all_goals simp

@[simp] theorem State.nakGap_frame (s : State) (i : StreamId) (e : Seq) :
    (s.nakGap i e).windows = s.windows ∧ (s.nakGap i e).link = s.link ∧ (s.nakGap i e).apply = s.apply := by
  unfold State.nakGap; dsimp only; repeat' split
  all_goals simp

@[simp] theorem State.nakRefused_frame (s : State) (i : StreamId) (r : Reason) :
    (s.nakRefused i r).windows = s.windows ∧ (s.nakRefused i r).link = s.link ∧
    (s.nakRefused i r).apply = s.apply := by
  unfold State.nakRefused; repeat' split
  all_goals simp

@[simp] theorem State.ackProgress_frame (s : State) (i : StreamId) (q : Seq) :
    (s.ackProgress i q).windows = s.windows ∧ (s.ackProgress i q).link = s.link ∧
    (s.ackProgress i q).apply = s.apply := by
  unfold State.ackProgress; simp

@[simp] theorem State.retransmitExpired_frame (s : State) (i : StreamId) :
    (s.retransmitExpired i).windows = s.windows ∧ (s.retransmitExpired i).link = s.link ∧
    (s.retransmitExpired i).apply = s.apply := by
  simp [State.retransmitExpired]

@[simp] theorem State.handshakeExpired_frame (s : State) (i : StreamId) :
    (s.handshakeExpired i).windows = s.windows ∧ (s.handshakeExpired i).link = s.link ∧
    (s.handshakeExpired i).apply = s.apply := by
  unfold State.handshakeExpired; dsimp only; repeat' split
  all_goals simp

@[simp] theorem State.request3_frame (s : State) (q : HandshakeReq) :
    (s.request3 q).windows = s.windows ∧ (s.request3 q).pool = s.pool ∧ (s.request3 q).streams = s.streams ∧
    (s.request3 q).apply = s.apply ∧ (s.request3 q).holds = s.holds ∧ (s.request3 q).events = s.events := by
  simp [State.request3]

@[simp] theorem State.refuseOpen_frame (s : State) (f : OpenFrame) (r : Reason) :
    (s.refuseOpen f r).windows = s.windows ∧ (s.refuseOpen f r).pool = s.pool ∧
    (s.refuseOpen f r).streams = s.streams ∧ (s.refuseOpen f r).apply = s.apply ∧
    (s.refuseOpen f r).holds = s.holds ∧ (s.refuseOpen f r).events = s.events := by
  simp [State.refuseOpen]

@[simp] theorem State.answerOpened_frame (s : State) (f : OpenFrame) :
    (s.answerOpened f).windows = s.windows ∧ (s.answerOpened f).pool = s.pool ∧
    (s.answerOpened f).streams = s.streams ∧ (s.answerOpened f).apply = s.apply ∧
    (s.answerOpened f).holds = s.holds ∧ (s.answerOpened f).events = s.events := by
  simp [State.answerOpened]

@[simp] theorem State.answerClosed_frame (s : State) (f : HandshakeFrame) :
    (s.answerClosed f).windows = s.windows ∧ (s.answerClosed f).pool = s.pool ∧
    (s.answerClosed f).streams = s.streams ∧ (s.answerClosed f).apply = s.apply ∧
    (s.answerClosed f).holds = s.holds ∧ (s.answerClosed f).events = s.events := by
  simp [State.answerClosed]

@[simp] theorem State.answerNow_frame (s : State) (f : DgqFrame) (st : DgrStatus) (r : Reason) :
    (s.answerNow f st r).windows = s.windows ∧ (s.answerNow f st r).pool = s.pool ∧
    (s.answerNow f st r).streams = s.streams ∧ (s.answerNow f st r).apply = s.apply ∧
    (s.answerNow f st r).holds = s.holds ∧ (s.answerNow f st r).events = s.events := by
  simp [State.answerNow]

@[simp] theorem State.armResponder_frame (s : State) (f : DgqFrame) :
    (s.armResponder f).windows = s.windows ∧ (s.armResponder f).pool = s.pool ∧
    (s.armResponder f).streams = s.streams ∧ (s.armResponder f).link = s.link ∧ (s.armResponder f).apply = s.apply ∧
    (s.armResponder f).holds = s.holds ∧ (s.armResponder f).events = s.events := by
  simp [State.armResponder]

@[simp] theorem State.dgrOutcome_frame (s : State) (st : DgrStatus) (r : Reason) (d : Word32) :
    (s.dgrOutcome st r d).windows = s.windows ∧ (s.dgrOutcome st r d).pool = s.pool ∧
    (s.dgrOutcome st r d).streams = s.streams ∧ (s.dgrOutcome st r d).link = s.link ∧
    (s.dgrOutcome st r d).apply = s.apply ∧ (s.dgrOutcome st r d).holds = s.holds := by
  unfold State.dgrOutcome; dsimp only; repeat' split
  all_goals simp

/-! ### Timers and commands -/

@[simp] theorem State.helloExpired_frame (s : State) :
    s.helloExpired.windows = s.windows ∧ s.helloExpired.pool = s.pool ∧ s.helloExpired.streams = s.streams ∧
    s.helloExpired.apply = s.apply ∧ s.helloExpired.holds = s.holds ∧ s.helloExpired.events = s.events := by
  simp [State.helloExpired]

@[simp] theorem State.keepaliveExpired_frame (s : State) :
    s.keepaliveExpired.windows = s.windows ∧ s.keepaliveExpired.pool = s.pool ∧
    s.keepaliveExpired.streams = s.streams ∧ s.keepaliveExpired.apply = s.apply ∧
    s.keepaliveExpired.holds = s.holds ∧ s.keepaliveExpired.events = s.events := by
  simp [State.keepaliveExpired]

@[simp] theorem State.ackDelayExpired_frame (s : State) (i : StreamId) :
    (s.ackDelayExpired i).windows = s.windows ∧ (s.ackDelayExpired i).pool = s.pool ∧
    (s.ackDelayExpired i).link = s.link ∧ (s.ackDelayExpired i).apply = s.apply ∧
    (s.ackDelayExpired i).holds = s.holds ∧ (s.ackDelayExpired i).events = s.events := by
  simp [State.ackDelayExpired]

@[simp] theorem State.responseExpired_frame (s : State) :
    s.responseExpired.windows = s.windows ∧ s.responseExpired.pool = s.pool ∧ s.responseExpired.streams = s.streams ∧
    s.responseExpired.link = s.link ∧ s.responseExpired.apply = s.apply ∧ s.responseExpired.holds = s.holds := by
  simp [State.responseExpired]

@[simp] theorem State.responderExpired_frame (s : State) :
    s.responderExpired.windows = s.windows ∧ s.responderExpired.pool = s.pool ∧
    s.responderExpired.streams = s.streams ∧ s.responderExpired.apply = s.apply ∧
    s.responderExpired.holds = s.holds ∧ s.responderExpired.events = s.events := by
  simp [State.responderExpired]

@[simp] theorem State.doOpen_frame (s : State) (i : StreamId) :
    (s.doOpen i).windows = s.windows ∧ (s.doOpen i).pool = s.pool ∧ (s.doOpen i).link = s.link ∧
    (s.doOpen i).apply = s.apply ∧ (s.doOpen i).holds = s.holds ∧ (s.doOpen i).events = s.events := by
  simp [State.doOpen]

@[simp] theorem State.doListen_frame (s : State) (i : StreamId) :
    (s.doListen i).windows = s.windows ∧ (s.doListen i).pool = s.pool ∧ (s.doListen i).link = s.link ∧
    (s.doListen i).apply = s.apply ∧ (s.doListen i).holds = s.holds ∧ (s.doListen i).events = s.events := by
  simp [State.doListen]

@[simp] theorem State.doReset_frame (s : State) (i : StreamId) :
    (s.doReset i).windows = s.windows := by
  unfold State.doReset; repeat' split
  all_goals simp

@[simp] theorem State.startAudit_frame (s : State) (i : StreamId) (n m : Nat) :
    (s.startAudit i n m).windows = s.windows ∧ (s.startAudit i n m).pool = s.pool ∧
    (s.startAudit i n m).streams = s.streams ∧ (s.startAudit i n m).link = s.link ∧
    (s.startAudit i n m).apply = s.apply ∧ (s.startAudit i n m).holds = s.holds ∧
    (s.startAudit i n m).events = s.events := by
  simp [State.startAudit]

@[simp] theorem State.abortByCommand_frame (s : State) :
    s.abortByCommand.windows = s.windows ∧ s.abortByCommand.pool = s.pool ∧ s.abortByCommand.streams = s.streams ∧
    s.abortByCommand.link = s.link ∧ s.abortByCommand.apply = s.apply ∧ s.abortByCommand.holds = s.holds := by
  simp [State.abortByCommand]

@[simp] theorem State.setSpi_frame (s : State) (p : SpiPort) :
    (s.setSpi p).windows = s.windows ∧ (s.setSpi p).pool = s.pool ∧ (s.setSpi p).streams = s.streams ∧
    (s.setSpi p).link = s.link ∧ (s.setSpi p).apply = s.apply ∧ (s.setSpi p).holds = s.holds ∧
    (s.setSpi p).events = s.events := by
  simp [State.setSpi]

@[simp] theorem State.popEvent_frame (s : State) :
    s.popEvent.windows = s.windows ∧ s.popEvent.pool = s.pool ∧ s.popEvent.streams = s.streams ∧
    s.popEvent.link = s.link ∧ s.popEvent.apply = s.apply ∧ s.popEvent.holds = s.holds := by
  unfold State.popEvent; dsimp only; repeat' split
  all_goals simp

@[simp] theorem State.spiRead_frame (s : State) (a : BitVec 16) :
    (s.spiRead a).windows = s.windows ∧ (s.spiRead a).streams = s.streams ∧ (s.spiRead a).apply = s.apply ∧
    (s.spiRead a).holds = s.holds := by
  unfold State.spiRead; repeat' split
  · simp
  · rw [readEffect_frame]; simp

end Sys2Proof.Machine
end


section
/-! PROOFS. What the larger operations can leave: one inversion per operation. With them, what no command but a write of
a window word or a reset changes: the Window Table. -/

namespace Sys2Proof.Machine

/-! ### Frames -/

/-- A frame changes nothing, or it arrives in UP: it goes to its owner, or its number retrains the link (R73). -/
theorem State.frameArrives_cases (s : State) (n : Byte) (owner : State → State) :
    s.frameArrives n owner = s ∨ s.link.state = .up ∧
      (s.frameArrives n owner = owner s.atAcceptance ∨ s.frameArrives n owner = s.startSilence.retrain .frameGap) := by
  unfold State.frameArrives
  split
  · exact .inl rfl
  · split
    · next hup =>
      unfold State.numberedFrame
      split
      · exact .inr ⟨hup, .inl rfl⟩
      · exact .inr ⟨hup, .inr rfl⟩
    all_goals exact .inl rfl

/-- A credit return is added, or it retrains the link (R81). -/
theorem State.creditReturn_cases (s : State) (n : Byte) (owner : State → State) :
    (s.link.credits + n.toNat ≤ s.link.lastAdvert ∧
      s.creditReturn n owner = owner { s with link := { s.link with credits := s.link.credits + n.toNat } }) ∨
    s.creditReturn n owner = s.retrain .badCreditReturn := by
  unfold State.creditReturn
  split
  · next h => exact .inl ⟨h, rfl⟩
  · exact .inr rfl

/-- The state with what a HELLO in TRAINING says of the partner (R70). -/
def State.partnerHeard (s : State) (f : HelloFrame) : State :=
  { s with link := { s.link with
    partnerId := f.identity, heard := true,
    lastAdvert := if f.senderUp then s.link.lastAdvert else f.count.toNat } }

/-- A HELLO in TRAINING leaves the link there, or takes it to UP (R70). -/
theorem State.trainingHello_cases (s : State) (f : HelloFrame) :
    s.trainingHello f = s.partnerHeard f ∨ s.trainingHello f = (s.partnerHeard f).reachUp none ∨
      s.trainingHello f = ((s.partnerHeard f).reachUp (some f.number)).creditReturn f.count id := by
  have def_ : s.trainingHello f = if f.heard ∧ s.link.heardSent then
      if f.senderUp then ((s.partnerHeard f).reachUp (some f.number)).creditReturn f.count id
      else (s.partnerHeard f).reachUp none
    else s.partnerHeard f := rfl
  rw [def_]
  split
  · split
    · exact .inr (.inr rfl)
    · exact .inr (.inl rfl)
  · exact .inl rfl

/-- The state with the partner's identity. -/
def State.withPartner (s : State) (w : Word32) : State := { s with link := { s.link with partnerId := w } }

/-- The adverts of a TRAINING HELLO taken in UP before confirmed (R72). -/
def State.advertsTaken (s : State) (f : HelloFrame) : State :=
  { s with link := { s.link with
    lastAdvert := f.count.toNat, credits := f.count.toNat, partnerId := f.identity, helloRequest := true } }

/-- What the arrival of a HELLO can leave. -/
inductive State.HelloLeaves (s : State) (f : HelloFrame) : State → Prop where
  | ignored : s.HelloLeaves f s
  | inDown (v : HelloFrame.valid f = true) : s.HelloLeaves f (s.enterTraining.trainingHello f)
  | inTraining (h : s.link.state = .training) (v : HelloFrame.valid f = true) : s.HelloLeaves f (s.trainingHello f)
  | accepted (h : s.link.state = .up) :
      s.HelloLeaves f (s.atAcceptance.creditReturn f.count (fun u => u.withPartner f.identity))
  | gap : s.HelloLeaves f (s.startSilence.retrain .frameGap)
  | silent : s.HelloLeaves f s.startSilence
  | adverts (h : s.link.state = .up) (v : f.count.toNat ≤ 32) : s.HelloLeaves f (s.startSilence.advertsTaken f)
  | partnerTrains (v : HelloFrame.valid f = true) :
      s.HelloLeaves f ((s.startSilence.retrain .partnerRetrain).trainingHello f)

theorem State.helloArrives_leaves (s : State) (f : HelloFrame) : s.HelloLeaves f (s.helloArrives f) := by
  unfold State.helloArrives
  split
  · exact .ignored
  split
  · exact .ignored
  · split
    · next v => exact .inDown v
    · exact .ignored
  · next ht =>
    split
    · next v => exact .inTraining ht v
    · exact .ignored
  · next hup =>
    split
    · unfold State.numberedFrame
      split
      · exact .accepted hup
      · exact .gap
    · next hs =>
      split
      · next v =>
        unfold State.partnerTraining
        split
        · exact .adverts hup (by simpa [HelloFrame.valid, hs] using v)
        · exact .partnerTrains v
      · exact .silent

/-! ### Responses of the Memory Port -/

/-- A response is discarded, or delivered to the owner of the outstanding request of its tag (R155). -/
theorem State.mpResponse_cases (s : State) (t : MpTag) (st : Status) (d : LineBytes) :
    s.mpResponse t st d = s ∨ ∃ m, s.mpResponse t st d = (s.retireTag t).deliver m st d := by
  unfold State.mpResponse
  split
  · exact .inl rfl
  · next m _ => exact .inr ⟨m, rfl⟩

/-- What the completion of a copy read can leave. -/
inductive State.CopyLeaves (s : State) (r : CopyRead) (d : LineBytes) : State → Prop where
  | dropped : s.CopyLeaves r d s
  | noted : s.CopyLeaves r d (s.memError r.stream r.line)
  | failed : s.CopyLeaves r d (s.copyFailed r)
  | recorded (slot : Nat) (rest : List Nat) (h : s.pool.freeList = slot :: rest) :
      s.CopyLeaves r d ((s.create r.stream slot rest ((s.stream r.stream).newRecord r.stream slot .copy r.line
        (Payload.ofLine d) .ready 0 none)).copyCreated r.stream)

theorem State.copyCompleted_leaves (s : State) (r : CopyRead) (st : Status) (d : LineBytes) :
    s.CopyLeaves r d (s.copyCompleted r st d) := by
  unfold State.copyCompleted
  split
  · split
    · exact .failed
    · split
      · exact .dropped
      · split
        · next u hu =>
          unfold State.offerCopy at hu
          split at hu
          · split at hu
            · next slot rest hfree => cases hu; exact .recorded slot rest hfree
            · cases hu
          · cases hu
        · exact .dropped
  · split
    · exact .noted
    · exact .dropped

/-- A copy read's response changes nothing, or ends the read: the engine leaves READING and the read completes. -/
theorem State.copyResponse_cases (s : State) (st : Status) (d : LineBytes) :
    s.copyResponse st d = s ∨ s.copyResponse st d = s.setEngine .idle ∨
      ∃ r, s.copyResponse st d = (s.setEngine .idle).copyCompleted r st d := by
  unfold State.copyResponse
  split
  · next r _ =>
    dsimp only
    split
    · exact .inr (.inl rfl)
    · exact .inr (.inr ⟨r, rfl⟩)
  all_goals exact .inl rfl

/-! ### Words written -/

/-- The effects of the commands of Table 11-2. -/
inductive CommandEffect (p : CmdParams) : (State → State) → Prop where
  | opened : CommandEffect p (fun s => s.doOpen p.stream)
  | openedClean : CommandEffect p (fun s => s.doOpenClean p.stream)
  | reopened : CommandEffect p (fun s => s.doReopen p.stream)
  | closed : CommandEffect p (fun s => s.toClosing p.stream)
  | reset : CommandEffect p (fun s => s.doReset p.stream)
  | listening : CommandEffect p (fun s => s.doListen p.stream)
  | linkEnabled : CommandEffect p State.enterTraining
  | linkDisabled : CommandEffect p State.doLinkDisable
  | linkRetrained : CommandEffect p (fun s => s.retrain .command)
  | auditStarted : CommandEffect p (fun s => s.startAudit p.stream p.firstGranule.toNat p.granuleCount.toNat)
  | auditAborted : CommandEffect p State.abortByCommand
  | softReset : CommandEffect p State.doSoftReset

/-- What the write of a control-space word can leave. -/
inductive State.Written (s : State) : State → Prop where
  | window (n : Fin 16) (w : Window) : s.Written (s.setWindow n w)
  | config (i : StreamId) (c : StreamConfig) : s.Written (s.modStream i (fun st => { st with cfg := c }))
  | threshold (g : GlobalConfig) : s.Written (State.poolThresholdTest { s with global := g })
  | settings (g : GlobalConfig) : s.Written { s with global := g }
  | refused (m : Management) : s.Written { s with mgmt := m }
  | command (p : CmdParams) (f : State → State) (h : CommandEffect p f) (m m' : Management) :
      s.Written { f { s with mgmt := m } with mgmt := m' }

/-- A command is refused, its result set; or its effect is made (R159). -/
def State.CommandLeaves (s : State) (p : CmdParams) (u : State) : Prop :=
  (∃ m, u = { s with mgmt := m }) ∨
    ∃ f m m', CommandEffect p f ∧ u = { f { s with mgmt := m } with mgmt := m' }

theorem State.command_leaves (s : State) (code : Byte) (p : CmdParams) (o : CommandOutcome) (f : State → State)
    (h : CommandEffect p f) : s.CommandLeaves p (s.command code p o f) := by
  unfold State.command
  dsimp only
  split
  · exact .inr ⟨f, _, _, h, rfl⟩
  all_goals exact .inl ⟨_, rfl⟩

theorem State.takeCommand_leaves (s : State) (code : Byte) (p : CmdParams) :
    s.CommandLeaves p (s.takeCommand code p) := by
  unfold State.takeCommand
  dsimp only
  split
  · exact s.command_leaves _ _ _ _ .opened
  · exact s.command_leaves _ _ _ _ .openedClean
  · exact s.command_leaves _ _ _ _ .reopened
  · exact s.command_leaves _ _ _ _ .closed
  · exact s.command_leaves _ _ _ _ .reset
  · exact s.command_leaves _ _ _ _ .listening
  · exact s.command_leaves _ _ _ _ .linkEnabled
  · exact s.command_leaves _ _ _ _ .linkDisabled
  · exact s.command_leaves _ _ _ _ .linkRetrained
  · exact s.command_leaves _ _ _ _ .auditStarted
  · exact s.command_leaves _ _ _ _ .auditAborted
  · exact s.command_leaves _ _ _ _ .softReset
  · exact .inl ⟨_, rfl⟩

theorem State.written_of_takeCommand (s : State) (code : Byte) (p : CmdParams) : s.Written (s.takeCommand code p) := by
  rcases s.takeCommand_leaves code p with ⟨m, e⟩ | ⟨f, m, m', hf, e⟩ <;> rw [e]
  · exact .refused m
  · exact .command p f hf m m'

theorem State.written_of_writeWindow (s u : State) (n : Fin 16) (o : Nat) (w : Word32)
    (h : s.writeWindow n o w = some u) : s.Written u := by
  unfold State.writeWindow at h
  dsimp only at h
  split at h
  all_goals
    first
    | (split at h <;> cases h; exact .window n _)
    | cases h

theorem State.written_of_writeStream (s u : State) (i : StreamId) (o : Nat) (w : Word32)
    (h : s.writeStream i o w = some u) : s.Written u := by
  unfold State.writeStream at h
  split at h
  · split at h
    · next c _ => cases h; exact .config i c
    · cases h
  · cases h

theorem State.written_of_controlWrite (s u : State) (a : BitVec 16) (w : Word32) (h : s.controlWrite a w = some u) :
    s.Written u := by
  unfold State.controlWrite at h
  dsimp only at h
  split at h
  · cases h; exact .threshold _
  split at h
  · unfold State.writeLinkTiming at h
    dsimp only at h
    split at h <;> cases h
    exact .settings _
  split at h
  · unfold State.writeHoldAudit at h
    dsimp only at h
    split at h <;> cases h
    exact .settings _
  split at h
  · unfold State.writeAck at h
    dsimp only at h
    split at h <;> cases h
    exact .settings _
  split at h
  · exact s.written_of_writeWindow u _ _ w h
  split at h
  · exact s.written_of_writeStream u _ _ w h
  split at h
  · cases h; exact s.written_of_takeCommand _ _
  · cases h

theorem WordWrite.written {c : Instr} {write : State → Option State} (h : WordWrite c write) (s u : State)
    (hw : write s = some u) : s.Written u := by
  cases h with
  | window _ n o w => exact s.written_of_writeWindow u n o w hw
  | word _ a w => exact s.written_of_controlWrite u a w hw
  | stream i o w => exact s.written_of_writeStream u i o w hw
  | threshold w => cases hw; exact .threshold _
  | command code p => cases hw; exact s.written_of_takeCommand code p

/-- A word's write only moves the SPI port, or its owner takes it. -/
theorem State.spiWrite_cases (s : State) (a : BitVec 16) (write : State → Option State) :
    (∃ p, s.spiWrite a write = s.setSpi p) ∨ ∃ p, write (s.setSpi p) = some (s.spiWrite a write) := by
  unfold State.spiWrite
  split
  · exact .inl ⟨_, rfl⟩
  split
  · exact .inl ⟨_, rfl⟩
  split
  · next u hu => exact .inr ⟨_, hu⟩
  · exact .inl ⟨_, rfl⟩

/-! ### The Window Table -/

theorem CommandEffect.windows {p : CmdParams} {f : State → State} (h : CommandEffect p f) (s : State) :
    (f s).windows = s.windows := by
  cases h <;> simp [State.doOpenClean, State.doReopen, State.doSoftReset]

theorem State.takeCommand_windows (s : State) (code : Byte) (p : CmdParams) :
    (s.takeCommand code p).windows = s.windows := by
  rcases s.takeCommand_leaves code p with ⟨m, e⟩ | ⟨f, m, m', hf, e⟩ <;> rw [e]
  exact hf.windows _

theorem WordWrite.windows {c : Instr} {write : State → Option State} (h : WordWrite c write)
    (hc : writesWindows c = false) (s u : State) (hw : write s = some u) : u.windows = s.windows := by
  cases h with
  | window hc' | word hc' => rw [hc] at hc'; cases hc'
  | stream i o w =>
    dsimp only at hw
    unfold State.writeStream at hw
    split at hw
    · split at hw <;> cases hw
      rfl
    · cases hw
  | threshold w => cases hw; simp
  | command code p => cases hw; exact s.takeCommand_windows code p

theorem State.creditReturn_windows (s : State) (n : Byte) (owner : State → State)
    (h : ∀ u, (owner u).windows = u.windows) : (s.creditReturn n owner).windows = s.windows := by
  rcases s.creditReturn_cases n owner with ⟨-, e⟩ | e <;> rw [e]
  · exact h _
  · simp

@[simp] theorem State.partnerHeard_windows (s : State) (f : HelloFrame) : (s.partnerHeard f).windows = s.windows := rfl

@[simp] theorem State.trainingHello_windows (s : State) (f : HelloFrame) : (s.trainingHello f).windows = s.windows := by
  rcases s.trainingHello_cases f with e | e | e <;> rw [e]
  · simp
  · simp
  · exact (State.creditReturn_windows _ _ _ fun _ => rfl).trans (by simp)

theorem State.helloArrives_windows (s : State) (f : HelloFrame) : (s.helloArrives f).windows = s.windows := by
  generalize hu : s.helloArrives f = u
  have leaves := hu ▸ s.helloArrives_leaves f
  cases leaves with
  | ignored => rfl
  | accepted =>
    exact State.creditReturn_windows s.atAcceptance f.count (fun u => u.withPartner f.identity) fun _ => rfl
  | inDown | inTraining | gap | partnerTrains => simp
  | silent | adverts => rfl

theorem FrameOwner.windows {owner : State → State} (h : FrameOwner owner) (s : State) :
    (owner s).windows = s.windows := by
  cases h with
  | record f => unfold State.recAccepted; repeat' split
                all_goals simp
  | ack f =>
    refine State.creditReturn_windows _ _ _ fun u => ?_
    unfold State.ackAccepted; dsimp only; split <;> simp
  | nak f =>
    refine State.creditReturn_windows _ _ _ fun u => ?_
    unfold State.nakAccepted; repeat' split
    all_goals simp
  | openStream f => unfold State.openAccepted; dsimp only; repeat' split
                    all_goals simp
  | opened f => unfold State.openedAccepted; dsimp only; split <;> simp
  | refuse f => unfold State.refuseAccepted; repeat' split
                all_goals simp
  | close f => unfold State.closeAccepted; dsimp only; repeat' split
               all_goals simp
  | closed f => unfold State.closedAccepted; dsimp only; split <;> simp
  | dgq f => unfold State.dgqAccepted; dsimp only; repeat' split
             all_goals simp
  | dgr f => unfold State.dgrAccepted; repeat' split
             all_goals simp

theorem State.copyResponse_windows (s : State) (st : Status) (d : LineBytes) :
    (s.copyResponse st d).windows = s.windows := by
  rcases s.copyResponse_cases st d with e | e | ⟨r, e⟩ <;> rw [e]
  · rfl
  generalize hu : (s.setEngine .idle).copyCompleted r st d = u
  have leaves := hu ▸ (s.setEngine .idle).copyCompleted_leaves r st d
  cases leaves <;> simp [State.setEngine]

theorem State.mpResponse_windows (s : State) (t : MpTag) (st : Status) (d : LineBytes) :
    (s.mpResponse t st d).windows = s.windows := by
  rcases s.mpResponse_cases t st d with e | ⟨m, e⟩ <;> rw [e]
  unfold State.deliver
  split
  case h_3 => exact State.copyResponse_windows _ st d
  all_goals simp [State.retireTag]

theorem State.Effect.windows {c : Instr} {s u : State} (h : s.Effect c u) (hc : writesWindows c = false) :
    u.windows = s.windows := by
  cases h with
  | completed hc' | released hc' => rw [hc] at hc'; cases hc'
  | frame n owner howner =>
    rcases s.frameArrives_cases n owner with e | ⟨-, e | e⟩ <;> rw [e]
    · exact howner.windows _
    · simp
  | hello f => exact s.helloArrives_windows f
  | response t st d => exact s.mpResponse_windows t st d
  | written a write hwrite =>
    rcases s.spiWrite_cases a write with ⟨p, e⟩ | ⟨p, e⟩
    · rw [e]; rfl
    · exact hwrite.windows hc (s.setSpi p) _ e
  | quiet | joined | port | asserted => rfl
  | delivered | slotWait | combine | hold | granted | transmitted | badFrame | unknownKind | helloTimer
    | trainingTimer | downTimer | keepalive | silence | handshake | retransmit | ackDelay | responseTimer
    | responderTimer | read => simp

/-- Settles O11: the effects of the other commands leave the Window Table, and so does the end of the event. -/
theorem windowTableKept : Obligations.WindowTableKept := by
  intro c s t hc h
  rcases exec_leftBy c s t h with rfl | ⟨u, hu, rfl⟩
  · rfl
  · exact (settle_frame u).1.trans (hu.windows hc)

end Sys2Proof.Machine
end


section
/-! PROOFS. The credit bound: what each effect does to the link's state, its credits and its last advert (R80, R81). -/

namespace Sys2Proof.Machine

/-- The link keeps its state and its last advert, and the credit counter has not risen. -/
def State.noCreditGained (s t : State) : Prop :=
  t.link.state = s.link.state ∧ t.link.lastAdvert = s.link.lastAdvert ∧ t.link.credits ≤ s.link.credits

theorem State.creditsBounded_of_noCreditGained {s t : State} (h : s.noCreditGained t) (hs : s.creditsBounded) :
    t.creditsBounded := by
  obtain ⟨hst, hadv, hcr⟩ := h
  obtain ⟨hup, hle, h32⟩ := hs
  refine ⟨fun hne => ?_, ?_, hadv ▸ h32⟩
  · have := hup (hst ▸ hne); omega
  · omega

theorem State.noCreditGained_of_link {s t : State} (h : t.link = s.link) : s.noCreditGained t := by
  unfold State.noCreditGained
  rw [h]
  exact ⟨rfl, rfl, le_refl _⟩

theorem State.noCreditGained_of_requests {s t : State} (h : s.sameLinkButRequests t) : s.noCreditGained t := by
  unfold State.noCreditGained
  rw [h]
  exact ⟨rfl, rfl, le_refl _⟩

theorem State.creditsBounded_of_link {s t : State} (h : t.link = s.link) (hs : s.creditsBounded) : t.creditsBounded :=
  State.creditsBounded_of_noCreditGained (State.noCreditGained_of_link h) hs

theorem State.creditsBounded_of_requests {s t : State} (h : s.sameLinkButRequests t) (hs : s.creditsBounded) :
    t.creditsBounded := State.creditsBounded_of_noCreditGained (State.noCreditGained_of_requests h) hs

/-- In TRAINING there are no credits and no advert. -/
theorem State.creditsBounded_enterTraining (s : State) : s.enterTraining.creditsBounded :=
  ⟨fun _ => rfl, Nat.zero_le _, Nat.zero_le _⟩

theorem State.creditsBounded_retrain (s : State) (c : RetrainCause) : (s.retrain c).creditsBounded :=
  State.creditsBounded_enterTraining _

/-! ### Requests at the arbiter -/

theorem State.sameLinkButRequests_bind (s : State) (i : StreamId) (ses : Session) :
    s.sameLinkButRequests (s.bind i ses) :=
  State.sameLinkButRequests_trans
    (State.sameLinkButRequests_of_link (t := (s.staleEntries i).modStream i (fun st =>
      { st.clearReceive with session := ses, acceptSeq := 0#16, appliedSeq := 65535#16 })) rfl)
    (State.sameLinkButRequests_refuseResponder _ i)

theorem State.sameLinkButRequests_request3 (s : State) (q : HandshakeReq) : s.sameLinkButRequests (s.request3 q) := rfl

theorem State.sameLinkButRequests_resetSend (s : State) (i : StreamId) : s.sameLinkButRequests (s.resetSend i) := by
  unfold State.sameLinkButRequests State.resetSend
  dsimp only
  split
  · simp [State.request3]
  · simp

theorem State.sameLinkButRequests_doReset (s : State) (i : StreamId) : s.sameLinkButRequests (s.doReset i) := by
  unfold State.doReset
  split
  · exact State.sameLinkButRequests_of_link rfl
  · split
    · exact s.sameLinkButRequests_resetSend i
    · exact s.sameLinkButRequests_leaveBound i _ _ _

theorem State.sameLinkButRequests_endResponder (s : State) (st : DgrStatus) (r : Reason) (d : Word32) :
    s.sameLinkButRequests (s.endResponder st r d) := State.sameLinkButRequests_request4 _ _

theorem State.sameLinkButRequests_initiatorResponse (s : State) (st : Status) (d : LineBytes) :
    s.sameLinkButRequests (s.initiatorResponse st d) := by
  have ends (u : State) : u.sameLinkButRequests u.readingEnds := by
    unfold State.readingEnds
    dsimp only
    split
    · exact State.sameLinkButRequests_of_link (by simp)
    · exact State.sameLinkButRequests_request4 _ _
  unfold State.initiatorResponse State.initiatorLine
  dsimp only
  repeat' split
  all_goals first | exact ends _ | exact State.sameLinkButRequests_of_link (by simp [State.setInitiator])

theorem State.sameLinkButRequests_responderResponse (s : State) (st : Status) (d : LineBytes) :
    s.sameLinkButRequests (s.responderResponse st d) := by
  unfold State.responderResponse State.responderLine State.responderEnds
  dsimp only
  repeat' split
  all_goals
    first
    | exact State.sameLinkButRequests_request4 _ _
    | exact State.sameLinkButRequests_of_link rfl

theorem State.copyResponse_link (s : State) (st : Status) (d : LineBytes) : (s.copyResponse st d).link = s.link := by
  rcases s.copyResponse_cases st d with e | e | ⟨r, e⟩ <;> rw [e]
  · rfl
  generalize hu : (s.setEngine .idle).copyCompleted r st d = u
  have leaves := hu ▸ (s.setEngine .idle).copyCompleted_leaves r st d
  cases leaves <;> simp [State.setEngine]

theorem State.sameLinkButRequests_mpResponse (s : State) (t : MpTag) (st : Status) (d : LineBytes) :
    s.sameLinkButRequests (s.mpResponse t st d) := by
  rcases s.mpResponse_cases t st d with e | ⟨m, e⟩ <;> rw [e]
  · exact State.sameLinkButRequests_of_link rfl
  unfold State.deliver
  split
  · exact State.sameLinkButRequests_of_link (by simp [State.retireTag])
  · exact State.sameLinkButRequests_of_link (by simp [State.retireTag])
  · exact State.sameLinkButRequests_of_link (State.copyResponse_link _ st d)
  · exact State.sameLinkButRequests_initiatorResponse (s.retireTag t) st d
  · exact State.sameLinkButRequests_responderResponse (s.retireTag t) st d

/-! ### Grants -/

theorem State.noCreditGained_sendUp {s t : State} (f : Frame) (h : s.noCreditGained t) : s.noCreditGained (t.sendUp f) := h

theorem State.noCreditGained_grant2 (s : State) (q : AckNakReq) : s.noCreditGained (s.grant2 q) := by
  have same : s.noCreditGained s := State.noCreditGained_of_link rfl
  unfold State.grant2
  split
  · exact State.noCreditGained_sendUp _ same
  · split
    · exact State.noCreditGained_sendUp _ same
    · exact same

theorem State.noCreditGained_grant3 (s : State) (q : HandshakeReq) : s.noCreditGained (s.grant3 q) := by
  have same : s.noCreditGained s := State.noCreditGained_of_link rfl
  unfold State.grant3
  dsimp only
  split <;> exact State.noCreditGained_sendUp _ same

theorem State.noCreditGained_grant4 (s : State) (q : AuditReq) : s.noCreditGained (s.grant4 q) := by
  have same : s.noCreditGained s := State.noCreditGained_of_link rfl
  unfold State.grant4
  split
  · exact State.noCreditGained_sendUp _ same
  · split
    · exact State.noCreditGained_sendUp _ same
    · exact same
  · split
    · exact State.noCreditGained_sendUp _ same
    · exact same

/-- A REC takes one credit (R80). -/
theorem State.noCreditGained_grant5 (s : State) : s.noCreditGained s.grant5 := by
  have same : s.noCreditGained s := State.noCreditGained_of_link rfl
  unfold State.grant5
  split
  · exact same
  · split
    · exact same
    · split
      · exact ⟨rfl, rfl, Nat.sub_le _ _⟩
      · exact same

theorem State.noCreditGained_grantConfirmed (s : State) : s.noCreditGained s.grantConfirmed := by
  unfold State.grantConfirmed
  split
  · next rest _ => exact State.noCreditGained_grant2 { s with link := { s.link with class2 := rest } } _
  · split
    · next rest _ => exact State.noCreditGained_grant3 { s with link := { s.link with class3 := rest } } _
    · split
      · next rest _ => exact State.noCreditGained_grant4 { s with link := { s.link with class4 := rest } } _
      · exact s.noCreditGained_grant5

/-- A grant takes a credit or none (R80). -/
theorem State.noCreditGained_transmitGrant (s : State) : s.noCreditGained s.transmitGrant := by
  have same : s.noCreditGained s := State.noCreditGained_of_link rfl
  unfold State.transmitGrant
  split
  · exact same
  split
  · exact same
  · exact same
  · split
    · exact ⟨rfl, rfl, le_refl _⟩
    · exact same
  · split
    · exact ⟨rfl, rfl, le_refl _⟩
    · split
      · exact s.noCreditGained_grantConfirmed
      · exact same

/-! ### Frames -/

/-- A credit return keeps the bound where the link is UP and its owner does (R81). -/
theorem State.creditsBounded_creditReturn (s : State) (n : Byte) (owner : State → State) (hup : s.link.state = .up)
    (hs : s.creditsBounded) (howner : ∀ u : State, u.link.state = .up → u.creditsBounded → (owner u).creditsBounded) :
    (s.creditReturn n owner).creditsBounded := by
  rcases s.creditReturn_cases n owner with ⟨hfit, e⟩ | e <;> rw [e]
  · exact howner _ hup ⟨fun hne => absurd hup hne, hfit, hs.2.2⟩
  · exact s.creditsBounded_retrain _

theorem State.creditsBounded_partnerHeard (s : State) (f : HelloFrame) (h : s.link.state = .training)
    (v : HelloFrame.valid f = true) (hs : s.creditsBounded) : (s.partnerHeard f).creditsBounded := by
  obtain ⟨hup, -, h32⟩ := hs
  have none : s.link.credits = 0 := hup (by rw [h]; decide)
  have advert : (s.partnerHeard f).link.lastAdvert ≤ 32 := by
    show (if f.senderUp then s.link.lastAdvert else f.count.toNat) ≤ 32
    split
    · exact h32
    · next hf => simpa [HelloFrame.valid, hf] using v
  exact ⟨fun _ => none, (Nat.le_of_eq none).trans (Nat.zero_le _), advert⟩

@[simp] theorem State.reachUp_link_state (s : State) (x : Option Byte) : (s.reachUp x).link.state = .up := by
  simp [State.reachUp, State.requestHello, State.startKeepalive, State.startSilence]

theorem State.creditsBounded_reachUp (s : State) (x : Option Byte) (hs : s.creditsBounded) :
    (s.reachUp x).creditsBounded := by
  refine ⟨fun hne => absurd (s.reachUp_link_state x) hne, ?_, ?_⟩
  · simp [State.reachUp, State.requestHello, State.startKeepalive, State.startSilence]
  · simpa [State.reachUp, State.requestHello, State.startKeepalive, State.startSilence] using hs.2.2

theorem State.creditsBounded_trainingHello (s : State) (f : HelloFrame) (h : s.link.state = .training)
    (v : HelloFrame.valid f = true) (hs : s.creditsBounded) : (s.trainingHello f).creditsBounded := by
  have heard := s.creditsBounded_partnerHeard f h v hs
  rcases s.trainingHello_cases f with e | e | e <;> rw [e]
  · exact heard
  · exact State.creditsBounded_reachUp _ _ heard
  · exact State.creditsBounded_creditReturn _ _ id (State.reachUp_link_state _ _)
      (State.creditsBounded_reachUp _ _ heard) fun u _ hu => hu

theorem State.creditsBounded_helloArrives (s : State) (f : HelloFrame) (hs : s.creditsBounded) :
    (s.helloArrives f).creditsBounded := by
  generalize hu : s.helloArrives f = u
  have leaves := hu ▸ s.helloArrives_leaves f
  cases leaves with
  | ignored => exact hs
  | inDown v => exact State.creditsBounded_trainingHello _ f rfl v s.creditsBounded_enterTraining
  | inTraining h v => exact s.creditsBounded_trainingHello f h v hs
  | accepted hup =>
    exact State.creditsBounded_creditReturn s.atAcceptance _ (fun u => u.withPartner f.identity) hup hs
      fun u _ hu => hu
  | gap => exact State.creditsBounded_retrain _ _
  | silent => exact hs
  | adverts hup v => exact ⟨fun hne => absurd hup hne, le_refl _, v⟩
  | partnerTrains v => exact State.creditsBounded_trainingHello _ f rfl v (State.creditsBounded_retrain _ _)

theorem FrameOwner.creditsBounded {owner : State → State} (h : FrameOwner owner) (s : State)
    (hup : s.link.state = .up) (hs : s.creditsBounded) : (owner s).creditsBounded := by
  have keeps {u t : State} (e : t.link = u.link) (hu : u.creditsBounded) : t.creditsBounded :=
    State.creditsBounded_of_link e hu
  cases h with
  | record f =>
    unfold State.recAccepted
    split
    · exact s.creditsBounded_retrain _
    split
    · exact keeps (by simp) hs
    · unfold State.examineRec
      dsimp only
      repeat' split
      case isTrue.isFalse =>
        exact State.creditsBounded_of_requests (State.sameLinkButRequests_trans
          (State.sameLinkButRequests_of_link (by simp)) (State.sameLinkButRequests_leaveBound _ _ _ _ _)) hs
      all_goals exact keeps (by simp) hs
  | ack f =>
    refine s.creditsBounded_creditReturn _ (State.ackAccepted f) hup hs fun u _ hu => keeps ?_ hu
    unfold State.ackAccepted
    dsimp only
    split <;> simp
  | nak f =>
    refine s.creditsBounded_creditReturn _ (State.nakAccepted f) hup hs fun u _ hu => keeps ?_ hu
    unfold State.nakAccepted
    repeat' split
    all_goals simp
  | openStream f =>
    have refused (q : HandshakeReq) : (s.request3 q).creditsBounded :=
      State.creditsBounded_of_requests (State.sameLinkButRequests_request3 s q) hs
    have bound : ((s.bind f.target f.session).answerOpened f).creditsBounded :=
      State.creditsBounded_of_requests (State.sameLinkButRequests_trans
        (s.sameLinkButRequests_bind f.target f.session) (State.sameLinkButRequests_request3 _ _)) hs
    unfold State.openAccepted
    dsimp only
    repeat' split
    · exact refused _
    · exact refused _
    · exact refused _
    · exact refused _
    · exact refused _
    · exact bound
  | opened f => exact keeps (by unfold State.openedAccepted; dsimp only; split <;> simp) hs
  | refuse f => exact keeps (by unfold State.refuseAccepted; repeat' split
                                all_goals simp) hs
  | close f =>
    unfold State.closeAccepted
    dsimp only
    repeat' split
    · exact State.creditsBounded_of_requests (State.sameLinkButRequests_trans
        (s.sameLinkButRequests_leaveBound f.target .listen .peerClose .none)
        (State.sameLinkButRequests_request3 _ _)) hs
    · exact State.creditsBounded_of_requests (State.sameLinkButRequests_request3 s _) hs
    · exact hs
    · exact hs
  | closed f => exact keeps (by unfold State.closedAccepted; dsimp only; split <;> simp) hs
  | dgq f =>
    unfold State.dgqAccepted
    dsimp only
    repeat' split
    all_goals
      first
      | exact keeps (by simp) hs
      | exact State.creditsBounded_of_requests (State.sameLinkButRequests_request4 _ _) hs
  | dgr f => exact keeps (by unfold State.dgrAccepted; repeat' split
                             all_goals simp) hs

/-! ### Link down and commands -/

@[simp] theorem State.streamDown_noCreditGained (s : State) (i : StreamId) : s.noCreditGained (s.streamDown i) := by
  unfold State.streamDown
  split
  case h_5 => exact State.noCreditGained_of_requests (s.sameLinkButRequests_leaveBound i _ _ _)
  all_goals exact State.noCreditGained_of_link (by simp)

theorem State.creditsBounded_streamsDown (s : State) (hs : s.creditsBounded) : s.streamsDown.creditsBounded := by
  unfold State.streamsDown
  induction allStreams generalizing s with
  | nil => exact hs
  | cons i rest ih => exact ih _ (State.creditsBounded_of_noCreditGained (s.streamDown_noCreditGained i) hs)

theorem State.creditsBounded_trainingFailed (s : State) (h : s.link.state = .training) (hs : s.creditsBounded) :
    s.trainingFailed.creditsBounded := by
  have none : s.link.credits = 0 := hs.1 (by rw [h]; decide)
  refine State.creditsBounded_streamsDown _ (State.creditsBounded_of_link (State.put_link _ _ _ _) ?_)
  exact ⟨fun _ => none, hs.2.1, hs.2.2⟩

theorem State.creditsBounded_doLinkDisable (s : State) (hs : s.creditsBounded) : s.doLinkDisable.creditsBounded := by
  unfold State.doLinkDisable
  split
  · exact hs
  · next h => exact ⟨fun _ => hs.1 (by rw [h]; decide), hs.2.1, hs.2.2⟩
  all_goals
    refine State.creditsBounded_streamsDown _ (State.creditsBounded_of_link (State.put_link _ _ _ _) ?_)
    refine ⟨fun _ => rfl, Nat.zero_le _, ?_⟩
    show (if s.link.state = .up then s.leaveUp else s).link.lastAdvert ≤ 32
    split
    · exact hs.2.2
    · exact hs.2.2

theorem CommandEffect.creditsBounded {p : CmdParams} {f : State → State} (h : CommandEffect p f) (s : State)
    (hs : s.creditsBounded) : (f s).creditsBounded := by
  cases h with
  | reset => exact State.creditsBounded_of_requests (s.sameLinkButRequests_doReset p.stream) hs
  | linkEnabled => exact s.creditsBounded_enterTraining
  | linkDisabled => exact s.creditsBounded_doLinkDisable hs
  | linkRetrained => exact s.creditsBounded_retrain _
  | softReset =>
    have answered : (s.answerHolds s.slotsInOrder).creditsBounded := State.creditsBounded_of_link (by simp) hs
    exact answered
  | opened | openedClean | reopened | closed | listening | auditStarted | auditAborted =>
    exact State.creditsBounded_of_link (by simp [State.doOpenClean, State.doReopen]) hs

theorem State.Written.creditsBounded {s u : State} (h : s.Written u) (hs : s.creditsBounded) : u.creditsBounded := by
  cases h with
  | window | config | settings | refused => exact hs
  | threshold g => exact State.creditsBounded_of_link (by simp) hs
  | command p f hf m m' => exact hf.creditsBounded { s with mgmt := m } hs

/-! ### Every step -/

theorem State.Effect.creditsBounded {c : Instr} {s u : State} (h : s.Effect c u) (hs : s.creditsBounded) :
    u.creditsBounded := by
  cases h with
  | response t st d => exact State.creditsBounded_of_requests (s.sameLinkButRequests_mpResponse t st d) hs
  | transmitted => exact State.creditsBounded_of_noCreditGained s.noCreditGained_transmitGrant hs
  | hello f => exact s.creditsBounded_helloArrives f hs
  | frame n owner howner =>
    rcases s.frameArrives_cases n owner with e | ⟨hup, e | e⟩ <;> rw [e]
    · exact hs
    · exact howner.creditsBounded s.atAcceptance hup hs
    · exact State.creditsBounded_retrain _ _
  | badFrame =>
    unfold State.badFrame
    dsimp only
    repeat' split
    all_goals first | exact hs | exact State.creditsBounded_retrain _ _
  | unknownKind =>
    unfold State.unknownKind
    repeat' split
    all_goals first | exact hs | exact State.creditsBounded_retrain _ _
  | trainingTimer h => exact s.creditsBounded_trainingFailed h hs
  | downTimer => exact s.creditsBounded_enterTraining
  | silence => exact s.creditsBounded_retrain _
  | responderTimer => exact State.creditsBounded_of_requests (State.sameLinkButRequests_endResponder _ _ _ _) hs
  | written a write hwrite =>
    rcases s.spiWrite_cases a write with ⟨p, e⟩ | ⟨p, e⟩
    · rw [e]; exact hs
    · exact (hwrite.written (s.setSpi p) _ e).creditsBounded hs
  | read a =>
    unfold State.spiRead
    split
    · exact hs
    · refine State.creditsBounded_of_noCreditGained ?_ hs
      rw [readEffect_frame]
      exact ⟨rfl, rfl, le_refl _⟩
  | completed => exact State.creditsBounded_of_link (State.put_link _ _ _ _) ⟨fun _ => rfl, le_refl _, Nat.zero_le _⟩
  | released => exact ⟨fun _ => rfl, le_refl _, Nat.zero_le _⟩
  | quiet | joined | port | asserted | helloTimer | keepalive => exact hs
  | delivered | slotWait | combine | hold | granted | handshake | retransmit | ackDelay | responseTimer =>
    exact State.creditsBounded_of_link (by simp) hs

/-- R80 along every step: the end of an event leaves the link but for its requests. -/
theorem creditsBounded_step (s t : State) (h : s.creditsBounded) (hstep : step s = .next t) : t.creditsBounded :=
  step_keeps (fun _ _ _ h => h) (fun _ _ h => h) (fun _ _ _ h hu => hu.creditsBounded h)
    (fun u hu => State.creditsBounded_of_requests (settle_sameLinkButRequests u) hu) s t h hstep

end Sys2Proof.Machine
end


section
/-! PROOFS. The bounds of the Apply Queue and the pending credits (R97, R105), and that the held lines stay distinct
(R17). -/

namespace Sys2Proof.Machine

/-! ### The Apply Queue and the pending credits -/

/-- The Apply Queue and the pending credits hold at most 32 (R97, R105). -/
def State.applyBounded (s : State) : Prop := s.apply.queue.length ≤ 32 ∧ s.apply.pendingCredits ≤ 32

theorem State.applyBounded_of_apply {s t : State} (h : t.apply = s.apply) (hs : s.applyBounded) : t.applyBounded := by
  unfold State.applyBounded
  rw [h]
  exact hs

/-- Neither the Apply Queue nor the pending credits has grown, but that the credits may have been returned. -/
theorem State.applyBounded_of_le {s t : State} (hq : t.apply.queue.length ≤ s.apply.queue.length)
    (hc : t.apply.pendingCredits ≤ s.apply.pendingCredits) (hs : s.applyBounded) : t.applyBounded :=
  ⟨hq.trans hs.1, hc.trans hs.2⟩

theorem State.applyBounded_creditPending (s : State) (hs : s.applyBounded) : s.creditPending.applyBounded := by
  unfold State.creditPending
  split
  · exact ⟨hs.1, Nat.min_le_left _ _⟩
  · exact hs

@[simp] theorem State.leaveBound_apply (s : State) (i : StreamId) (x : StreamState) (c : Cause) (r : Reason) :
    (s.leaveBound i x c r).apply = (s.staleEntries i).apply := by
  simp [State.leaveBound]

@[simp] theorem State.bind_apply (s : State) (i : StreamId) (ses : Session) :
    (s.bind i ses).apply = (s.staleEntries i).apply := by
  simp [State.bind]

theorem State.applyBounded_staleEntries (s : State) (i : StreamId) (hs : s.applyBounded) :
    (s.staleEntries i).applyBounded := ⟨by simpa [State.staleEntries] using hs.1, hs.2⟩

theorem State.applyBounded_leaveBound (s : State) (i : StreamId) (x : StreamState) (c : Cause) (r : Reason)
    (hs : s.applyBounded) : (s.leaveBound i x c r).applyBounded :=
  State.applyBounded_of_apply (s.leaveBound_apply i x c r) (s.applyBounded_staleEntries i hs)

theorem State.applyBounded_retire (s : State) (e : ApplyEntry) (o : ApplyOutcome) (hs : s.applyBounded) :
    (s.retire e o).applyBounded := by
  have popped : s.headPopped.applyBounded :=
    State.applyBounded_creditPending _ (State.applyBounded_of_le (s := s) (by simp) (le_refl _) hs)
  rcases s.retire_cases e o with h | h | h | h <;> rw [h]
  · exact popped
  · exact State.applyBounded_of_apply (by simp) popped
  · exact State.applyBounded_of_apply (by simp) popped
  · exact State.applyBounded_leaveBound _ _ _ _ _ (State.applyBounded_of_apply (by simp) popped)

theorem State.TakenTo.apply {s t : State} {r : SpRequest} (h : s.TakenTo r t) : t.apply = s.apply := by
  cases h <;> simp

theorem settle_applyBounded (s : State) (hs : s.applyBounded) : (settle s).applyBounded := by
  refine EndKeeps.settled (P := State.applyBounded) ⟨?_, ?_, ?_, ?_, ?_, ?_, ?_, ?_⟩ s hs
  · exact fun t h => State.applyBounded_of_le (t.passEntries_length _).le (le_refl _) h
  · exact fun t e o h => t.applyBounded_retire e o h
  · exact fun t h => State.applyBounded_of_apply (by simp) h
  · exact fun t r u h hu => State.applyBounded_of_apply hu.apply h
  · exact fun t w h => h
  · exact fun t h => State.applyBounded_of_apply (by simp) h
  · exact fun t n h => h
  · exact fun t h => h

theorem State.applyBounded_enterTraining (s : State) (hs : s.applyBounded) : s.enterTraining.applyBounded :=
  ⟨hs.1, Nat.zero_le _⟩

theorem State.applyBounded_retrain (s : State) (c : RetrainCause) (hs : s.applyBounded) :
    (s.retrain c).applyBounded := by
  refine State.applyBounded_enterTraining _ ⟨?_, Nat.zero_le _⟩
  have same : ((s.putProtocolError c).put .linkRetrain none (BitVec.ofNat 20 c.code)).apply = s.apply := by simp
  show ((s.putProtocolError c).put .linkRetrain none (BitVec.ofNat 20 c.code)).apply.queue.length ≤ 32
  rw [same]
  exact hs.1

theorem State.applyBounded_creditReturn (s : State) (n : Byte) (owner : State → State) (hs : s.applyBounded)
    (howner : ∀ u : State, u.applyBounded → (owner u).applyBounded) : (s.creditReturn n owner).applyBounded := by
  rcases s.creditReturn_cases n owner with ⟨-, e⟩ | e <;> rw [e]
  · exact howner _ hs
  · exact s.applyBounded_retrain _ hs

theorem State.applyBounded_trainingHello (s : State) (f : HelloFrame) (hs : s.applyBounded) :
    (s.trainingHello f).applyBounded := by
  rcases s.trainingHello_cases f with e | e | e <;> rw [e]
  · exact hs
  · exact State.applyBounded_of_apply (State.reachUp_frame _ _).2.2.2.1 hs
  · exact State.applyBounded_creditReturn _ _ id (State.applyBounded_of_apply (State.reachUp_frame _ _).2.2.2.1 hs)
      fun u hu => hu

theorem State.applyBounded_helloArrives (s : State) (f : HelloFrame) (hs : s.applyBounded) :
    (s.helloArrives f).applyBounded := by
  generalize hu : s.helloArrives f = u
  have leaves := hu ▸ s.helloArrives_leaves f
  cases leaves with
  | ignored | silent | adverts => exact hs
  | inDown v => exact State.applyBounded_trainingHello _ f (s.applyBounded_enterTraining hs)
  | inTraining h v => exact s.applyBounded_trainingHello f hs
  | accepted hup =>
    exact State.applyBounded_creditReturn s.atAcceptance _ (fun u => u.withPartner f.identity) hs fun u hu => hu
  | gap => exact State.applyBounded_retrain s.startSilence _ hs
  | partnerTrains v => exact State.applyBounded_trainingHello _ f (State.applyBounded_retrain s.startSilence _ hs)

/-- A queued REC frame finds its place: an arrival at a full queue retrains (R100). -/
theorem State.applyBounded_recAccepted (s : State) (f : RecFrame) (hs : s.applyBounded) :
    (State.recAccepted f s).applyBounded := by
  have dropped := s.applyBounded_creditPending hs
  unfold State.recAccepted
  split
  · exact s.applyBounded_retrain _ hs
  · next hroom =>
    split
    · exact dropped
    · unfold State.examineRec
      dsimp only
      repeat' split
      · exact dropped
      · exact dropped
      · refine ⟨?_, hs.2⟩
        show (s.apply.queue ++ [RecFrame.entry f _]).length ≤ 32
        rw [List.length_append, List.length_singleton]
        omega
      · exact State.applyBounded_leaveBound _ _ _ _ _ dropped
      · exact dropped
      · unfold State.recGap
        dsimp only
        split
        · exact dropped
        · exact dropped
      · exact dropped

theorem FrameOwner.applyBounded {owner : State → State} (h : FrameOwner owner) (s : State) (hs : s.applyBounded) :
    (owner s).applyBounded := by
  have keeps {u t : State} (e : t.apply = u.apply) (hu : u.applyBounded) : t.applyBounded :=
    State.applyBounded_of_apply e hu
  cases h with
  | record f => exact s.applyBounded_recAccepted f hs
  | ack f =>
    refine s.applyBounded_creditReturn _ (State.ackAccepted f) hs fun u hu => keeps ?_ hu
    unfold State.ackAccepted
    dsimp only
    split <;> simp
  | nak f =>
    refine s.applyBounded_creditReturn _ (State.nakAccepted f) hs fun u hu => keeps ?_ hu
    unfold State.nakAccepted
    repeat' split
    all_goals simp
  | openStream f =>
    have bound : ((s.bind f.target f.session).answerOpened f).applyBounded :=
      keeps (by simp) (s.applyBounded_staleEntries f.target hs)
    unfold State.openAccepted
    dsimp only
    repeat' split
    case isFalse.isFalse.isFalse.isFalse.isFalse => exact bound
    all_goals exact hs
  | opened f => exact keeps (by unfold State.openedAccepted; dsimp only; split <;> simp) hs
  | refuse f => exact keeps (by unfold State.refuseAccepted; repeat' split
                                all_goals simp) hs
  | close f =>
    unfold State.closeAccepted
    dsimp only
    repeat' split
    · exact keeps (by simp) (s.applyBounded_leaveBound f.target .listen .peerClose .none hs)
    · exact hs
    · exact hs
    · exact hs
  | closed f => exact keeps (by unfold State.closedAccepted; dsimp only; split <;> simp) hs
  | dgq f => exact keeps (by unfold State.dgqAccepted; dsimp only; repeat' split
                             all_goals simp) hs
  | dgr f => exact keeps (by unfold State.dgrAccepted; repeat' split
                             all_goals simp) hs

theorem State.applyBounded_streamDown (s : State) (i : StreamId) (hs : s.applyBounded) :
    (s.streamDown i).applyBounded := by
  unfold State.streamDown
  split
  case h_5 => exact s.applyBounded_leaveBound i _ _ _ hs
  all_goals exact State.applyBounded_of_apply (by simp) hs

theorem State.applyBounded_streamsDown (s : State) (hs : s.applyBounded) : s.streamsDown.applyBounded := by
  unfold State.streamsDown
  induction allStreams generalizing s with
  | nil => exact hs
  | cons i rest ih => exact ih _ (s.applyBounded_streamDown i hs)

theorem State.applyBounded_doLinkDisable (s : State) (hs : s.applyBounded) : s.doLinkDisable.applyBounded := by
  unfold State.doLinkDisable
  split
  · exact hs
  · exact hs
  all_goals
    refine State.applyBounded_streamsDown _ (State.applyBounded_of_apply (State.put_apply _ _ _ _) ⟨?_, Nat.zero_le _⟩)
    show (if s.link.state = .up then s.leaveUp else s).apply.queue.length ≤ 32
    split
    · exact hs.1
    · exact hs.1

theorem CommandEffect.applyBounded {p : CmdParams} {f : State → State} (h : CommandEffect p f) (s : State)
    (hs : s.applyBounded) : (f s).applyBounded := by
  cases h with
  | reset =>
    dsimp only
    unfold State.doReset
    repeat' split
    · exact hs
    · exact State.applyBounded_of_apply (by simp) hs
    · exact s.applyBounded_leaveBound _ _ _ _ hs
  | linkEnabled => exact s.applyBounded_enterTraining hs
  | linkDisabled => exact s.applyBounded_doLinkDisable hs
  | linkRetrained => exact s.applyBounded_retrain _ hs
  | opened | openedClean | reopened | closed | listening | auditStarted | auditAborted | softReset =>
    exact State.applyBounded_of_apply (by simp [State.doOpenClean, State.doReopen, State.doSoftReset]) hs

theorem State.Written.applyBounded {s u : State} (h : s.Written u) (hs : s.applyBounded) : u.applyBounded := by
  cases h with
  | window | config | settings | refused => exact hs
  | threshold g => exact State.applyBounded_of_apply (by simp) hs
  | command p f hf m m' => exact hf.applyBounded { s with mgmt := m } hs

theorem issueFirst_length (t : MpTag) (l : List ApplyEntry) : (issueFirst t l).length = l.length := by
  induction l with
  | nil => rfl
  | cons e rest ih =>
    unfold issueFirst
    split <;> simp [ih]

theorem State.applyBounded_mpGrant (s : State) (hs : s.applyBounded) : s.mpGrant.applyBounded := by
  have apply (u : State) (hu : u.applyBounded) : u.grantApply.applyBounded := by
    unfold State.grantApply
    split
    · next t _ _ =>
      refine State.applyBounded_of_apply (State.applyDisturbs_frame _ _).2.2.2.2.2.1 ⟨?_, hu.2⟩
      show (issueFirst t u.apply.queue).length ≤ 32
      rw [issueFirst_length]
      exact hu.1
    · exact hu
  have passed : s.passCopy.applyBounded := State.applyBounded_of_apply (by simp) hs
  unfold State.mpGrant
  dsimp only
  split
  · exact State.applyBounded_of_apply (by simp) passed
  · unfold State.grantInternal
    split
    · exact apply _ passed
    · repeat' split
      all_goals exact State.applyBounded_of_apply (by simp) passed
  · exact passed

theorem State.applyBounded_mpResponse (s : State) (t : MpTag) (st : Status) (d : LineBytes) (hs : s.applyBounded) :
    (s.mpResponse t st d).applyBounded := by
  rcases s.mpResponse_cases t st d with e | ⟨m, e⟩ <;> rw [e]
  · exact hs
  unfold State.deliver
  split
  · exact State.applyBounded_of_apply (s := s) (by simp [State.retireTag]) hs
  · exact ⟨by simpa [State.applyDone, State.retireTag] using hs.1, hs.2⟩
  · rcases (s.retireTag t).copyResponse_cases st d with e' | e' | ⟨r, e'⟩ <;> rw [e']
    · exact hs
    · exact hs
    generalize hu : ((s.retireTag t).setEngine .idle).copyCompleted r st d = u
    have leaves := hu ▸ ((s.retireTag t).setEngine .idle).copyCompleted_leaves r st d
    cases leaves <;> exact State.applyBounded_of_apply (s := s) (by simp [State.setEngine, State.retireTag]) hs
  · exact State.applyBounded_of_apply (s := s) (by simp [State.retireTag]) hs
  · exact State.applyBounded_of_apply (s := s) (by simp [State.retireTag]) hs

theorem State.applyBounded_transmitGrant (s : State) (hs : s.applyBounded) : s.transmitGrant.applyBounded := by
  have returned (u : State) (h : u.applyBounded) : u.creditsReturned.applyBounded := ⟨h.1, Nat.zero_le _⟩
  have class2 (u : State) (q : AckNakReq) (hu : u.applyBounded) : (u.grant2 q).applyBounded := by
    unfold State.grant2
    split
    · exact returned _ hu
    · split
      · exact returned _ hu
      · exact hu
  unfold State.transmitGrant
  repeat' split
  · exact hs
  · exact hs
  · exact hs
  · exact hs
  · exact hs
  · exact returned s hs
  · unfold State.grantConfirmed
    repeat' split
    · exact class2 _ _ hs
    · exact State.applyBounded_of_apply (s := s) (by simp) hs
    · exact State.applyBounded_of_apply (s := s) (by simp) hs
    · exact State.applyBounded_of_apply (s := s) (by simp) hs
  · exact hs

theorem State.Effect.applyBounded {c : Instr} {s u : State} (h : s.Effect c u) (hs : s.applyBounded) :
    u.applyBounded := by
  cases h with
  | granted => exact s.applyBounded_mpGrant hs
  | response t st d => exact s.applyBounded_mpResponse t st d hs
  | transmitted => exact s.applyBounded_transmitGrant hs
  | hello f => exact s.applyBounded_helloArrives f hs
  | frame n owner howner =>
    rcases s.frameArrives_cases n owner with e | ⟨-, e | e⟩ <;> rw [e]
    · exact hs
    · exact howner.applyBounded s.atAcceptance hs
    · exact State.applyBounded_retrain s.startSilence _ hs
  | badFrame =>
    unfold State.badFrame
    dsimp only
    repeat' split
    case h_4 => exact State.applyBounded_retrain _ _ hs
    all_goals exact hs
  | unknownKind =>
    unfold State.unknownKind
    repeat' split
    case h_1 => exact State.applyBounded_retrain s.startSilence _ hs
    all_goals exact hs
  | trainingTimer => exact State.applyBounded_streamsDown _ (State.applyBounded_of_apply (s := s) (by simp) hs)
  | downTimer => exact s.applyBounded_enterTraining hs
  | silence => exact s.applyBounded_retrain _ hs
  | written a write hwrite =>
    rcases s.spiWrite_cases a write with ⟨p, e⟩ | ⟨p, e⟩
    · rw [e]; exact hs
    · exact (hwrite.written (s.setSpi p) _ e).applyBounded hs
  | completed => exact State.applyBounded_of_apply (State.put_apply _ _ _ _) ⟨Nat.zero_le _, Nat.zero_le _⟩
  | released => exact ⟨Nat.zero_le _, Nat.zero_le _⟩
  | quiet | joined | port | asserted => exact hs
  | delivered | slotWait | combine | hold | helloTimer | keepalive | handshake | retransmit | ackDelay
    | responseTimer | responderTimer | read => exact State.applyBounded_of_apply (by simp) hs

/-! ### The held lines -/

/-- Every held write of t holds the address that its slot holds in s. -/
def State.holdsKept (s t : State) : Prop :=
  ∀ k h, t.hold k = some h → ∃ g, s.hold k = some g ∧ g.addr = h.addr

theorem State.holdsKept_of_holds {s t : State} (h : t.holds = s.holds) : s.holdsKept t := by
  intro k g hg
  have same : t.hold k = s.hold k := by unfold State.hold; rw [h]
  exact ⟨g, same ▸ hg, rfl⟩

theorem State.holdsKept.trans {s t u : State} (h : s.holdsKept t) (h' : t.holdsKept u) : s.holdsKept u := by
  intro k w hw
  obtain ⟨g, hg, ha⟩ := h' k w hw
  obtain ⟨f, hf, hb⟩ := h k g hg
  exact ⟨f, hf, hb.trans ha⟩

/-- From a state that holds what s holds, and on to one that holds the same. -/
theorem State.holdsKept.from_ {s t u : State} (h : t.holdsKept u) (e : t.holds = s.holds) : s.holdsKept u :=
  (State.holdsKept_of_holds e).trans h

theorem State.holdsKept.to_ {s t u : State} (h : s.holdsKept t) (e : u.holds = t.holds) : s.holdsKept u :=
  h.trans (State.holdsKept_of_holds e)

theorem State.heldLinesDistinct_of_holdsKept {s t : State} (h : s.holdsKept t) (hs : s.heldLinesDistinct) :
    t.heldLinesDistinct := by
  intro j k x y hj hk hjk
  obtain ⟨x', hx, hxa⟩ := h j x hj
  obtain ⟨y', hy, hya⟩ := h k y hk
  rw [← hxa, ← hya]
  exact hs j k x' y' hx hy hjk

theorem State.heldLinesDistinct_of_holds {s t : State} (h : t.holds = s.holds) (hs : s.heldLinesDistinct) :
    t.heldLinesDistinct := State.heldLinesDistinct_of_holdsKept (State.holdsKept_of_holds h) hs

theorem State.hold_emptyHold (s : State) (k j : Fin 4) (h : HeldWrite) (hk : s.hold k = some h) :
    (s.emptyHold k).hold j = if j = k then none
      else (s.hold j).map (fun w => if h.order < w.order then { w with order := w.order - 1 } else w) := by
  unfold State.emptyHold
  rw [hk]
  exact holdTable_get _ j

theorem State.holdsKept_emptyHold (s : State) (k : Fin 4) : s.holdsKept (s.emptyHold k) := by
  cases hk : s.hold k with
  | none =>
    have same : s.emptyHold k = s := by unfold State.emptyHold; rw [hk]
    rw [same]
    exact State.holdsKept_of_holds rfl
  | some h =>
    intro j w hw
    rw [s.hold_emptyHold k j h hk] at hw
    split at hw
    · cases hw
    · obtain ⟨g, hg, rfl⟩ := Option.map_eq_some_iff.mp hw
      refine ⟨g, hg, ?_⟩
      split <;> rfl

theorem State.holdsKept_answerHold (s : State) (k : Fin 4) : s.holdsKept (s.answerHold k) := by
  unfold State.answerHold
  split
  · exact State.holdsKept_of_holds rfl
  · exact (s.holdsKept_emptyHold k).trans (State.holdsKept_of_holds rfl)

theorem State.holdsKept_answerHolds (l : List (Fin 4)) (s : State) : s.holdsKept (s.answerHolds l) := by
  induction l generalizing s with
  | nil => exact State.holdsKept_of_holds rfl
  | cons k rest ih => exact (s.holdsKept_answerHold k).trans (ih _)

theorem State.holdsKept_raiseMarks (s : State) (i : StreamId) : s.holdsKept (s.raiseMarks i) := by
  unfold State.raiseMarks
  split
  · exact State.holdsKept_of_holds rfl
  · intro j w hw
    have read := (holdTable_get _ j).symm.trans hw
    obtain ⟨g, hg, rfl⟩ := Option.map_eq_some_iff.mp read
    refine ⟨g, hg, ?_⟩
    split <;> rfl

theorem State.release_holds (s : State) (k : Fin 4) : (s.release k).holds = (s.emptyHold k).holds := by
  unfold State.release
  split
  · next hk => unfold State.emptyHold; rw [hk]
  · next h hk =>
    have offered := (State.offer_frame (s.emptyHold k) h.stream ((s.stream h.stream).cfg.lineIndex h.addr)
      (lanesPayload (bytePos h.addr) h.lanes)).2.2.2.2.1
    dsimp only
    split <;> rename_i heq <;> rw [heq] at offered
    · simpa using offered
    · simpa using offered
    · simpa using offered

theorem State.holdsKept_testHolds (l : List (Fin 4)) (s : State) : s.holdsKept (s.testHolds l) := by
  induction l generalizing s with
  | nil => exact State.holdsKept_of_holds rfl
  | cons k rest ih =>
    unfold State.testHolds
    split
    · split
      · exact ((s.holdsKept_emptyHold k).trans (State.holdsKept_of_holds (s.release_holds k))).trans (ih _)
      · exact ih s
    · exact ih s

theorem State.holdsKept_toActive (s : State) (i : StreamId) : s.holdsKept (s.toActive i) :=
  ((State.holdsKept_of_holds (t := s.changeState i .active .clean .none) rfl).trans
    (State.holdsKept_raiseMarks _ i)).trans (State.holdsKept_testHolds _ _)

theorem State.holdsKept_toDegraded (s : State) (i : StreamId) (c : Cause) (r : Reason) :
    s.holdsKept (s.toDegraded i c r) := by
  unfold State.toDegraded
  refine .trans ?_ (State.holdsKept_of_holds (State.engineLeave_frame _ _).2.2.2.2.2.2.1)
  exact (State.holdsKept_answerHolds _ _).from_ (by simp)

theorem State.holdsKept_toClosing (s : State) (i : StreamId) : s.holdsKept (s.toClosing i) := by
  unfold State.toClosing
  refine .trans ?_ (State.holdsKept_of_holds (State.drained_frame _ _).2.2.2.2.2.1)
  refine .trans ?_ (State.holdsKept_of_holds (State.engineLeave_frame _ _).2.2.2.2.2.2.1)
  exact (State.holdsKept_answerHolds _ _).from_ (by simp)

/-- A RESET_STREAM of a SEND stream but for the requests at the arbiter (R60). -/
def State.sendCleared (s : State) (i : StreamId) : State :=
  ((((((s.abortAudit i).flush i).modStream i (fun st =>
    { st.clearSend.clearHandshake with dirty := [], copyPos := none, retryCount := 0 })).changeState i .off .command
    .none).answerStream i).engineLeave i)

/-- The stream's own frames waiting at the arbiter are withdrawn, and in UP a CLOSE of its session is requested (R60). -/
def State.requestReset (s : State) (i : StreamId) (ses : Session) : State :=
  let u := { s with link := { s.link with class3 := s.link.class3.filter (fun q => !q.ownFrameOf i) } }
  if u.link.state = .up then u.request3 (.resetClose i ses) else u

theorem State.resetSend_eq (s : State) (i : StreamId) :
    s.resetSend i = (s.sendCleared i).requestReset i (s.stream i).session := by
  delta State.resetSend State.requestReset State.sendCleared
  with_reducible rfl

theorem State.requestReset_frame (s : State) (i : StreamId) (ses : Session) :
    (s.requestReset i ses).holds = s.holds ∧ (s.requestReset i ses).pool = s.pool ∧
    (s.requestReset i ses).streams = s.streams ∧ (s.requestReset i ses).events = s.events := by
  unfold State.requestReset
  dsimp only
  split <;> exact ⟨rfl, rfl, rfl, rfl⟩

theorem State.holdsKept_resetSend (s : State) (i : StreamId) : s.holdsKept (s.resetSend i) := by
  have cleared : s.holdsKept (s.sendCleared i) := by
    unfold State.sendCleared
    refine State.holdsKept.to_ ?_ (State.engineLeave_frame _ i).2.2.2.2.2.2.1
    unfold State.answerStream
    exact (State.holdsKept_answerHolds _ _).from_ (by simp)
  rw [State.resetSend_eq]
  exact cleared.to_ (State.requestReset_frame _ _ _).1

theorem State.holdsKept_retryExhausted (s : State) (i : StreamId) : s.holdsKept (s.retryExhausted i) := by
  unfold State.retryExhausted
  split
  · exact s.holdsKept_toDegraded i _ _
  · exact s.holdsKept_toDegraded i _ _
  · exact State.holdsKept_of_holds (by simp)
  · exact State.holdsKept_of_holds rfl

theorem State.holdsKept_streamDown (s : State) (i : StreamId) : s.holdsKept (s.streamDown i) := by
  unfold State.streamDown
  split
  · exact s.holdsKept_toDegraded i _ _
  · exact s.holdsKept_toDegraded i _ _
  · exact s.holdsKept_toDegraded i _ _
  all_goals exact State.holdsKept_of_holds (by simp)

theorem State.holdsKept_streamsDown (s : State) : s.holdsKept s.streamsDown := by
  unfold State.streamsDown
  induction allStreams generalizing s with
  | nil => exact State.holdsKept_of_holds rfl
  | cons i rest ih => exact (s.holdsKept_streamDown i).trans (ih _)

theorem State.holdsKept_doLinkDisable (s : State) : s.holdsKept s.doLinkDisable := by
  unfold State.doLinkDisable
  split
  · exact State.holdsKept_of_holds rfl
  · exact State.holdsKept_of_holds rfl
  all_goals
    refine (State.holdsKept_streamsDown _).from_ ?_
    rw [State.put_holds]
    show (if s.link.state = .up then s.leaveUp else s).holds = s.holds
    split <;> rfl

theorem State.holdsKept_goBack (s : State) (i : StreamId) (q : Option Seq) : s.holdsKept (s.goBack i q) := by
  unfold State.goBack
  dsimp only
  split
  · exact (State.holdsKept_retryExhausted _ i).from_ rfl
  · exact State.holdsKept_of_holds rfl

theorem State.holdsKept_nakAccepted (f : NakFrame) (s : State) : s.holdsKept (State.nakAccepted f s) := by
  have same : s.holdsKept s := State.holdsKept_of_holds rfl
  unfold State.nakAccepted
  repeat' split
  · unfold State.nakGap
    dsimp only
    repeat' split
    · exact State.holdsKept_of_holds rfl
    · exact s.holdsKept_goBack _ _
    · exact same
  · unfold State.nakRefused
    split
    · exact s.holdsKept_toDegraded _ _ _
    · exact s.holdsKept_toDegraded _ _ _
    · exact State.holdsKept_of_holds (by simp)
    · exact same
  all_goals exact same

theorem State.holdsKept_ackAccepted (f : AckFrame) (s : State) : s.holdsKept (State.ackAccepted f s) := by
  unfold State.ackAccepted
  dsimp only
  split
  · unfold State.ackProgress
    refine ((State.holdsKept_testHolds _ _).from_ ?_).to_ (State.drained_frame _ _).2.2.2.2.2.1
    simp
  · exact State.holdsKept_of_holds rfl

theorem State.holdsKept_creditReturn (s : State) (n : Byte) (owner : State → State)
    (howner : ∀ u : State, u.holdsKept (owner u)) : s.holdsKept (s.creditReturn n owner) := by
  rcases s.creditReturn_cases n owner with ⟨-, e⟩ | e <;> rw [e]
  · exact (howner _).from_ rfl
  · exact State.holdsKept_of_holds (by simp)

theorem State.holdsKept_trainingHello (s : State) (f : HelloFrame) : s.holdsKept (s.trainingHello f) := by
  have up (x : Option Byte) : s.holdsKept ((s.partnerHeard f).reachUp x) :=
    State.holdsKept_of_holds (by simp [State.partnerHeard])
  rcases s.trainingHello_cases f with e | e | e <;> rw [e]
  · exact State.holdsKept_of_holds rfl
  · exact up _
  · exact (up _).trans (State.holdsKept_creditReturn _ _ id fun u => State.holdsKept_of_holds rfl)

theorem State.holdsKept_helloArrives (s : State) (f : HelloFrame) : s.holdsKept (s.helloArrives f) := by
  generalize hu : s.helloArrives f = u
  have leaves := hu ▸ s.helloArrives_leaves f
  cases leaves with
  | ignored | silent | adverts => exact State.holdsKept_of_holds rfl
  | inDown | inTraining => exact (State.holdsKept_trainingHello _ f).from_ rfl
  | accepted =>
    exact (State.holdsKept_creditReturn s.atAcceptance f.count (fun u => u.withPartner f.identity)
        fun u => State.holdsKept_of_holds rfl).from_ rfl
  | gap => exact State.holdsKept_of_holds (by simp)
  | partnerTrains => exact (State.holdsKept_trainingHello _ f).from_ (by simp)

theorem FrameOwner.holdsKept {owner : State → State} (h : FrameOwner owner) (s : State) : s.holdsKept (owner s) := by
  cases h with
  | ack f => exact s.holdsKept_creditReturn _ (State.ackAccepted f) (State.holdsKept_ackAccepted f)
  | nak f => exact s.holdsKept_creditReturn _ (State.nakAccepted f) (State.holdsKept_nakAccepted f)
  | refuse f =>
    unfold State.refuseAccepted
    repeat' split
    · exact State.holdsKept_of_holds rfl
    · exact s.holdsKept_toDegraded _ _ _
    · exact State.holdsKept_of_holds rfl
  | record f => exact State.holdsKept_of_holds (by unfold State.recAccepted; repeat' split
                                                   all_goals simp)
  | openStream f => exact State.holdsKept_of_holds (by unfold State.openAccepted; dsimp only; repeat' split
                                                       all_goals simp)
  | opened f => exact State.holdsKept_of_holds (by unfold State.openedAccepted; dsimp only; split <;> simp)
  | close f => exact State.holdsKept_of_holds (by unfold State.closeAccepted; dsimp only; repeat' split
                                                  all_goals simp)
  | closed f => exact State.holdsKept_of_holds (by unfold State.closedAccepted; dsimp only; split <;> simp)
  | dgq f => exact State.holdsKept_of_holds (by unfold State.dgqAccepted; dsimp only; repeat' split
                                                all_goals simp)
  | dgr f => exact State.holdsKept_of_holds (by unfold State.dgrAccepted; repeat' split
                                                all_goals simp)

theorem CommandEffect.holdsKept {p : CmdParams} {f : State → State} (h : CommandEffect p f) (s : State) :
    s.holdsKept (f s) := by
  cases h with
  | closed => exact s.holdsKept_toClosing p.stream
  | reset =>
    dsimp only
    unfold State.doReset
    repeat' split
    · exact State.holdsKept_of_holds rfl
    · exact s.holdsKept_resetSend _
    · exact State.holdsKept_of_holds (by simp)
  | linkDisabled => exact s.holdsKept_doLinkDisable
  | softReset => exact (State.holdsKept_answerHolds s.slotsInOrder s).to_ rfl
  | opened | openedClean | reopened | listening | linkEnabled | linkRetrained | auditStarted | auditAborted =>
    exact State.holdsKept_of_holds (by simp [State.doOpenClean, State.doReopen])

theorem State.Written.holdsKept {s u : State} (h : s.Written u) : s.holdsKept u := by
  cases h with
  | window | config | settings | refused => exact State.holdsKept_of_holds rfl
  | threshold g => exact State.holdsKept_of_holds (by simp)
  | command p f hf m m' => exact hf.holdsKept { s with mgmt := m }

theorem State.holdsKept_mpResponse (s : State) (t : MpTag) (st : Status) (d : LineBytes) :
    s.holdsKept (s.mpResponse t st d) := by
  rcases s.mpResponse_cases t st d with e | ⟨m, e⟩ <;> rw [e]
  · exact State.holdsKept_of_holds rfl
  unfold State.deliver
  split
  case h_3 =>
    rcases (s.retireTag t).copyResponse_cases st d with e' | e' | ⟨r, e'⟩ <;> rw [e']
    · exact State.holdsKept_of_holds rfl
    · exact State.holdsKept_of_holds rfl
    let v := (s.retireTag t).setEngine .idle
    have start : s.holdsKept v := State.holdsKept_of_holds rfl
    generalize hu : v.copyCompleted r st d = u
    have leaves := hu ▸ v.copyCompleted_leaves r st d
    cases leaves with
    | dropped => exact start
    | noted => exact start.trans (State.holdsKept_of_holds (by simp))
    | failed =>
      unfold State.copyFailed
      dsimp only
      refine start.trans ((State.holdsKept_toDegraded _ _ _ _).from_ ?_)
      split <;> simp
    | recorded slot rest =>
      have start : s.holdsKept (v.create r.stream slot rest ((v.stream r.stream).newRecord r.stream slot .copy r.line
          (Payload.ofLine d) .ready 0 none)) := start.to_ (by simp)
      refine start.trans ?_
      unfold State.copyCreated
      dsimp only
      split
      · exact (State.holdsKept_toActive _ _).from_ rfl
      · exact State.holdsKept_of_holds rfl
  all_goals exact State.holdsKept_of_holds (by simp [State.retireTag])

theorem State.Effect.heldLinesDistinct {c : Instr} {s u : State} (h : s.Effect c u) (hs : s.heldLinesDistinct) :
    u.heldLinesDistinct := by
  have kept {t : State} (ht : s.holdsKept t) : t.heldLinesDistinct := State.heldLinesDistinct_of_holdsKept ht hs
  cases h with
  | hold k =>
    unfold State.holdExpired
    split
    · exact hs
    · exact kept ((s.holdsKept_answerHold k).trans (State.holdsKept_of_holds (by simp)))
  | response t st d => exact kept (s.holdsKept_mpResponse t st d)
  | hello f => exact kept (s.holdsKept_helloArrives f)
  | frame n owner howner =>
    rcases s.frameArrives_cases n owner with e | ⟨-, e | e⟩ <;> rw [e]
    · exact hs
    · exact kept (howner.holdsKept s.atAcceptance)
    · exact kept (State.holdsKept_of_holds (by simp))
  | trainingTimer => exact kept ((State.holdsKept_streamsDown _).from_ (by simp))
  | handshake i =>
    refine kept ?_
    unfold State.handshakeExpired
    dsimp only
    repeat' split
    · exact (State.holdsKept_toDegraded _ i _ _).from_ rfl
    all_goals exact State.holdsKept_of_holds (by simp)
  | retransmit i => exact kept (s.holdsKept_goBack i _)
  | written a write hwrite =>
    rcases s.spiWrite_cases a write with ⟨p, e⟩ | ⟨p, e⟩
    · rw [e]; exact hs
    · exact kept (hwrite.written (s.setSpi p) _ e).holdsKept
  | completed =>
    refine State.heldLinesDistinct_of_holds (State.put_holds _ _ _ _) fun j k g h hj => ?_
    cases (holdTable_get (fun _ => none) j).symm.trans hj
  | released =>
    intro j k g h hj
    cases (holdTable_get (fun _ => none) j).symm.trans hj
  | quiet | joined | port | asserted => exact hs
  | delivered | slotWait | combine | granted | transmitted | badFrame | unknownKind | helloTimer | downTimer
    | keepalive | silence | ackDelay | responseTimer | responderTimer | read =>
      exact kept (State.holdsKept_of_holds (by simp))

theorem State.heldLine_eq_false (s : State) (line : Addr) (h : s.heldLine line = false) (k : Fin 4) (w : HeldWrite)
    (hk : s.hold k = some w) : lineOf w.addr ≠ line := by
  have held : some w ∈ s.holds.toList := by
    rw [← hk]
    exact List.getElem_mem (l := s.holds.toList) (by simp)
  have none := (List.any_eq_false.mp h) (some w) held
  simpa using none

/-- A head that is taken into a hold slot has a line that no slot holds (R17). -/
theorem State.TakenTo.heldLinesDistinct {s t : State} {r : SpRequest} (h : s.TakenTo r t)
    (hs : s.heldLinesDistinct) : t.heldLinesDistinct := by
  cases h with
  | held k i lanes free line =>
    have read (j : Fin 4) (g : HeldWrite) (hg : (s.takeHold k i r.tag r.addr lanes).hold j = some g) :
        (j = k ∧ g.addr = r.addr) ∨ (j ≠ k ∧ s.hold j = some g) := by
      by_cases hj : j = k
      · subst hj
        have := (State.hold_setHold s j _).symm.trans hg
        cases this
        exact .inl ⟨rfl, rfl⟩
      · exact .inr ⟨hj, (State.hold_setHold_ne s k j _ hj).symm.trans hg⟩
    intro j j' g g' hg hg' hne
    rcases read j g hg with ⟨ej, ha⟩ | ⟨hj, hold⟩ <;> rcases read j' g' hg' with ⟨ej', ha'⟩ | ⟨hj', hold'⟩
    · exact absurd (ej.trans ej'.symm) hne
    · rw [ha]
      exact (s.heldLine_eq_false _ line j' g' hold').symm
    · rw [ha']
      exact s.heldLine_eq_false _ line j g hold
    · exact hs j j' g g' hold hold' hne
  | answered | plain | tracked | placed | refused => exact State.heldLinesDistinct_of_holds (by simp) hs

theorem settle_heldLinesDistinct (s : State) (hs : s.heldLinesDistinct) : (settle s).heldLinesDistinct := by
  refine EndKeeps.settled (P := State.heldLinesDistinct) ⟨?_, ?_, ?_, ?_, ?_, ?_, ?_, ?_⟩ s hs
  · exact fun t h => h
  · exact fun t e o h => State.heldLinesDistinct_of_holds (by simp) h
  · exact fun t h => State.heldLinesDistinct_of_holds (by simp) h
  · exact fun t r u h hu => hu.heldLinesDistinct h
  · exact fun t w h => h
  · exact fun t h => State.heldLinesDistinct_of_holds (by simp) h
  · exact fun t n h => h
  · exact fun t h => h

end Sys2Proof.Machine
end


section
/-! PROOFS. The bound of the Event Queue (R160), which every event put keeps; with the bounds before, every step keeps
all three. -/

namespace Sys2Proof.Machine

/-- Where the Event Queue held at most 32 entries it still does (R160). -/
def State.eventsKept (s t : State) : Prop := s.events.entries.length ≤ 32 → t.events.entries.length ≤ 32

theorem State.eventsKept_of_events {s t : State} (h : t.events = s.events) : s.eventsKept t := by
  unfold State.eventsKept
  rw [h]
  exact id

theorem State.eventsKept.trans {s t u : State} (h : s.eventsKept t) (h' : t.eventsKept u) : s.eventsKept u :=
  fun hs => h' (h hs)

theorem State.eventsKept.from_ {s t u : State} (h : t.eventsKept u) (e : t.events = s.events) : s.eventsKept u :=
  (State.eventsKept_of_events e).trans h

theorem State.eventsKept.to_ {s t u : State} (h : s.eventsKept t) (e : u.events = t.events) : s.eventsKept u :=
  h.trans (State.eventsKept_of_events e)

/-- A full queue takes no entry (R160). -/
theorem State.eventsKept_put (s : State) (c : EventCode) (x : Option StreamId) (d : BitVec 20) :
    s.eventsKept (s.put c x d) := by
  intro hs
  unfold State.put
  split
  · next h =>
    show (s.events.entries ++ [_]).length ≤ 32
    rw [List.length_append, List.length_singleton]
    omega
  · exact hs

/-- A state with the events of another after a put. -/
theorem State.eventsKept_of_put {s t u : State} {c : EventCode} {x : Option StreamId} {d : BitVec 20}
    (ht : t.events = (u.put c x d).events) (hu : u.events = s.events) : s.eventsKept t :=
  ((u.eventsKept_put c x d).from_ hu).to_ ht

/-! ### The operations that put events -/

theorem State.eventsKept_poolFell (s : State) : s.eventsKept s.poolFell := by
  unfold State.poolFell
  dsimp only
  split
  · exact State.eventsKept_of_put rfl rfl
  · exact State.eventsKept_of_events rfl

theorem State.eventsKept_create (s : State) (i : StreamId) (n : Nat) (l : List Nat) (r : Record) :
    s.eventsKept (s.create i n l r) := (State.eventsKept_poolFell _).from_ rfl

theorem State.eventsKept_offer (s : State) (i : StreamId) (l : LineIndex) (p : Payload) :
    s.eventsKept (s.offer i l p).2 := by
  unfold State.offer
  split
  · exact State.eventsKept_of_events rfl
  · split
    · split
      · exact s.eventsKept_create i _ _ _
      · exact State.eventsKept_of_events rfl
    · exact State.eventsKept_of_events rfl

theorem State.eventsKept_poolThresholdTest (s : State) : s.eventsKept s.poolThresholdTest := by
  unfold State.poolThresholdTest
  split
  · split
    · exact (s.eventsKept_put _ _ _).to_ rfl
    · exact State.eventsKept_of_events rfl
  · exact State.eventsKept_of_events (by simp)

theorem State.eventsKept_endJob (s : State) (o : AuditOutcome) (r : Reason) (x y : Option Word32) :
    s.eventsKept (s.endJob o r x y) := (State.eventsKept_put _ _ _ _).from_ rfl

theorem State.eventsKept_abortAudit (s : State) (i : StreamId) : s.eventsKept (s.abortAudit i) := by
  unfold State.abortAudit
  split
  · exact s.eventsKept_endJob _ _ _ _
  · exact State.eventsKept_of_events rfl

theorem State.eventsKept_mark (s : State) (i : StreamId) (g : Nat) : s.eventsKept (s.mark i g) := by
  unfold State.mark
  split
  case h_4 => exact ((State.eventsKept_abortAudit (s.modStream i (·.markDirty g)) i).from_ rfl).to_ rfl
  all_goals exact State.eventsKept_of_events rfl

theorem State.eventsKept_markLine (s : State) (i : StreamId) (l : LineIndex) : s.eventsKept (s.markLine i l) :=
  s.eventsKept_mark i _

theorem State.eventsKept_markRecords (l : List Record) (s : State) (i : StreamId) :
    s.eventsKept (s.markRecords i l) := by
  induction l generalizing s with
  | nil => exact State.eventsKept_of_events rfl
  | cons r rest ih => exact (s.eventsKept_markLine i r.line).trans (ih _)

theorem State.eventsKept_toDegraded (s : State) (i : StreamId) (c : Cause) (r : Reason) :
    s.eventsKept (s.toDegraded i c r) := by
  let s1 := (s.abortAudit i).changeState i .degraded c r
  let s2 := (s1.flushMarking i).dropCopyMarked i
  have aborted : s.eventsKept s1 := (s.eventsKept_abortAudit i).to_ rfl
  have flushed : s1.eventsKept (s1.flushMarking i) :=
    (State.eventsKept_markRecords (s1.stream i).sendList s1 i).to_ (by simp [State.flushMarking])
  have dropped (u : State) : u.eventsKept (u.dropCopyMarked i) := by
    unfold State.dropCopyMarked
    split
    · exact State.eventsKept_of_events rfl
    · exact (State.eventsKept_mark _ i _).from_ rfl
  have left : (s.toDegraded i c r).events = s2.events := by
    simp [State.toDegraded, s2, s1]
  exact ((aborted.trans flushed).trans (dropped _)).to_ left

theorem State.eventsKept_toClosing (s : State) (i : StreamId) : s.eventsKept (s.toClosing i) :=
  (s.eventsKept_abortAudit i).to_ (by simp [State.toClosing])

theorem State.eventsKept_resetSend (s : State) (i : StreamId) : s.eventsKept (s.resetSend i) := by
  refine (s.eventsKept_abortAudit i).to_ ?_
  rw [State.resetSend_eq, (State.requestReset_frame _ _ _).2.2.2]
  simp [State.sendCleared]

theorem State.eventsKept_retryExhausted (s : State) (i : StreamId) : s.eventsKept (s.retryExhausted i) := by
  unfold State.retryExhausted
  split
  · exact s.eventsKept_toDegraded i _ _
  · exact s.eventsKept_toDegraded i _ _
  · exact State.eventsKept_of_events (by simp)
  · exact State.eventsKept_of_events rfl

theorem State.eventsKept_streamDown (s : State) (i : StreamId) : s.eventsKept (s.streamDown i) := by
  unfold State.streamDown
  split
  · exact s.eventsKept_toDegraded i _ _
  · exact s.eventsKept_toDegraded i _ _
  · exact s.eventsKept_toDegraded i _ _
  all_goals exact State.eventsKept_of_events (by simp)

theorem State.eventsKept_streamsDown (s : State) : s.eventsKept s.streamsDown := by
  unfold State.streamsDown
  induction allStreams generalizing s with
  | nil => exact State.eventsKept_of_events rfl
  | cons i rest ih => exact (s.eventsKept_streamDown i).trans (ih _)

theorem State.eventsKept_doLinkDisable (s : State) : s.eventsKept s.doLinkDisable := by
  unfold State.doLinkDisable
  split
  · exact State.eventsKept_of_events rfl
  · exact State.eventsKept_of_events rfl
  all_goals
    refine ((State.eventsKept_put _ _ _ _).from_ ?_).trans (State.eventsKept_streamsDown _)
    show (if s.link.state = .up then s.leaveUp else s).events = s.events
    split <;> rfl

theorem State.eventsKept_retrain (s : State) (c : RetrainCause) : s.eventsKept (s.retrain c) := by
  have error : s.eventsKept (s.putProtocolError c) := by
    unfold State.putProtocolError
    split
    · exact s.eventsKept_put _ _ _
    · exact State.eventsKept_of_events rfl
  exact (error.trans (State.eventsKept_put _ .linkRetrain none (BitVec.ofNat 20 c.code))).to_ (by simp [State.retrain])

theorem State.eventsKept_reachUp (s : State) (x : Option Byte) : s.eventsKept (s.reachUp x) :=
  State.eventsKept_of_put (State.streamsUp_frame _).2.2.2.2.2.2.2.2.2.2.1 rfl

theorem State.eventsKept_release (s : State) (k : Fin 4) : s.eventsKept (s.release k) := by
  unfold State.release
  split
  · exact State.eventsKept_of_events rfl
  · next h hk =>
    have offered := (State.eventsKept_offer (s.emptyHold k) h.stream ((s.stream h.stream).cfg.lineIndex h.addr)
      (lanesPayload (bytePos h.addr) h.lanes)).from_ (s := s) (by simp)
    dsimp only
    split <;> rename_i heq <;> rw [heq] at offered
    · exact offered.to_ (by simp)
    · exact offered.to_ (by simp)
    · exact (offered.trans (State.eventsKept_markLine _ h.stream ((s.stream h.stream).cfg.lineIndex h.addr))).to_ (by simp)

theorem State.eventsKept_testHolds (l : List (Fin 4)) (s : State) : s.eventsKept (s.testHolds l) := by
  induction l generalizing s with
  | nil => exact State.eventsKept_of_events rfl
  | cons k rest ih =>
    unfold State.testHolds
    split
    · split
      · exact (s.eventsKept_release k).trans (ih _)
      · exact ih s
    · exact ih s

theorem State.eventsKept_toActive (s : State) (i : StreamId) : s.eventsKept (s.toActive i) := by
  unfold State.toActive State.testReleases
  exact (State.eventsKept_testHolds _ _).from_ (by simp)

theorem State.eventsKept_goBack (s : State) (i : StreamId) (q : Option Seq) : s.eventsKept (s.goBack i q) := by
  unfold State.goBack
  dsimp only
  split
  · exact (State.eventsKept_retryExhausted _ i).from_ rfl
  · exact State.eventsKept_of_events rfl

theorem State.eventsKept_localComplete (s : State) (i : StreamId) (n : Nat) (x : Status) :
    s.eventsKept (s.localComplete i n x) := by
  unfold State.localComplete
  dsimp only
  split
  · exact State.eventsKept_of_events rfl
  · next y _ =>
    have noted (u : State) (hu : u.events = s.events) : s.eventsKept ((u.memError i y.line).markLine i y.line) :=
      ((State.eventsKept_put u _ _ _).from_ hu).trans (State.eventsKept_markLine _ _ _)
    have marked (u : State) (hu : u.events = s.events) : s.eventsKept ((u.markLine i y.line).memError i y.line) :=
      ((u.eventsKept_markLine i y.line).from_ hu).trans (State.eventsKept_put _ _ _ _)
    split
    · split
      · exact State.eventsKept_of_events (by simp)
      · refine State.eventsKept.to_ (noted _ ?_) (State.freeFlagged_frame _ i n).2.2.2.2.2.2.2.2.2.1
        rfl
    · split
      · exact State.eventsKept_of_events rfl
      · exact marked _ rfl

/-! ### The end of an event -/

theorem State.eventsKept_retire (s : State) (e : ApplyEntry) (o : ApplyOutcome) : s.eventsKept (s.retire e o) := by
  have popped : s.headPopped.events = s.events := by simp [State.headPopped]
  have failed : s.eventsKept (s.headPopped.applyError e) := (State.eventsKept_put _ _ _ _).from_ popped
  rcases s.retire_cases e o with h | h | h | h <;> rw [h]
  · exact State.eventsKept_of_events popped
  · exact failed
  · exact State.eventsKept_of_events (by simpa using popped)
  · exact failed.to_ (by simp [State.refuseApply])

theorem eventsKept_putOwed (l : List OwedEvent) (s : State) : s.eventsKept (putOwed l s) := by
  induction l generalizing s with
  | nil => exact State.eventsKept_of_events rfl
  | cons o rest ih => exact (s.eventsKept_put _ _ _).trans (ih _)

theorem State.TakenTo.eventsKept {s t : State} {r : SpRequest} (h : s.TakenTo r t) : s.eventsKept t := by
  cases h with
  | answered | plain | held => exact State.eventsKept_of_events (by simp)
  | tracked i =>
    exact (s.eventsKept_markLine i ((s.stream i).cfg.lineIndex r.addr)).to_ (by simp [State.forwardTracked])
  | placed i slot line p h => exact (s.eventsKept_offer i line p).to_ (by simp)
  | refused c i d => exact (State.eventsKept_put _ _ _ _).from_ rfl

theorem settle_eventsKept (s : State) : s.eventsKept (settle s) := by
  refine EndKeeps.settled (P := fun t => s.eventsKept t) ⟨?_, ?_, ?_, ?_, ?_, ?_, ?_, ?_⟩ s
    (State.eventsKept_of_events rfl)
  · exact fun t h => h
  · exact fun t e o h => h.trans (t.eventsKept_retire e o)
  · exact fun t h => h.trans ((eventsKept_putOwed _ t).to_ rfl)
  · exact fun t r u h hu => h.trans (hu.eventsKept.from_ rfl)
  · exact fun t w h => h
  · exact fun t h => h.to_ (by simp)
  · exact fun t n h => h
  · exact fun t h => h

/-! ### The effects -/

theorem State.eventsKept_creditReturn (s : State) (n : Byte) (owner : State → State)
    (howner : ∀ u : State, u.eventsKept (owner u)) : s.eventsKept (s.creditReturn n owner) := by
  rcases s.creditReturn_cases n owner with ⟨-, e⟩ | e <;> rw [e]
  · exact (howner _).from_ rfl
  · exact s.eventsKept_retrain _

theorem State.eventsKept_trainingHello (s : State) (f : HelloFrame) : s.eventsKept (s.trainingHello f) := by
  have up (x : Option Byte) : s.eventsKept ((s.partnerHeard f).reachUp x) :=
    (State.eventsKept_reachUp (s.partnerHeard f) x).from_ rfl
  rcases s.trainingHello_cases f with e | e | e <;> rw [e]
  · exact State.eventsKept_of_events rfl
  · exact up _
  · exact (up _).trans (State.eventsKept_creditReturn _ _ id fun u => State.eventsKept_of_events rfl)

theorem State.eventsKept_helloArrives (s : State) (f : HelloFrame) : s.eventsKept (s.helloArrives f) := by
  generalize hu : s.helloArrives f = u
  have leaves := hu ▸ s.helloArrives_leaves f
  cases leaves with
  | ignored | silent | adverts => exact State.eventsKept_of_events rfl
  | inDown | inTraining => exact (State.eventsKept_trainingHello _ f).from_ rfl
  | accepted =>
    exact (State.eventsKept_creditReturn s.atAcceptance f.count (fun u => u.withPartner f.identity)
        fun u => State.eventsKept_of_events rfl).from_ rfl
  | gap => exact (State.eventsKept_retrain _ _).from_ rfl
  | partnerTrains =>
    exact ((State.eventsKept_retrain s.startSilence _).from_ rfl).trans (State.eventsKept_trainingHello _ f)

theorem State.eventsKept_nakAccepted (f : NakFrame) (s : State) : s.eventsKept (State.nakAccepted f s) := by
  have same : s.eventsKept s := State.eventsKept_of_events rfl
  unfold State.nakAccepted
  repeat' split
  · unfold State.nakGap
    dsimp only
    repeat' split
    · exact State.eventsKept_of_events rfl
    · exact s.eventsKept_goBack _ _
    · exact same
  · unfold State.nakRefused
    split
    · exact s.eventsKept_toDegraded _ _ _
    · exact s.eventsKept_toDegraded _ _ _
    · exact State.eventsKept_of_events (by simp)
    · exact same
  all_goals exact same

theorem State.eventsKept_ackAccepted (f : AckFrame) (s : State) : s.eventsKept (State.ackAccepted f s) := by
  unfold State.ackAccepted
  dsimp only
  split
  · unfold State.ackProgress State.testReleases
    refine State.eventsKept.to_ ?_ (State.drained_frame _ f.target).2.2.2.2.2.2.2.2.2.2.1
    exact (State.eventsKept_testHolds _ _).from_ (by simp)
  · exact State.eventsKept_of_events rfl

theorem FrameOwner.eventsKept {owner : State → State} (h : FrameOwner owner) (s : State) : s.eventsKept (owner s) := by
  cases h with
  | ack f => exact s.eventsKept_creditReturn _ (State.ackAccepted f) (State.eventsKept_ackAccepted f)
  | nak f => exact s.eventsKept_creditReturn _ (State.nakAccepted f) (State.eventsKept_nakAccepted f)
  | refuse f =>
    unfold State.refuseAccepted
    repeat' split
    · exact State.eventsKept_of_events rfl
    · exact s.eventsKept_toDegraded _ _ _
    · exact State.eventsKept_of_events rfl
  | record f =>
    unfold State.recAccepted
    split
    · exact s.eventsKept_retrain _
    · split <;> exact State.eventsKept_of_events (by simp)
  | dgr f =>
    unfold State.dgrAccepted
    repeat' split
    · exact State.eventsKept_of_events rfl
    · unfold State.dgrOutcome
      dsimp only
      split <;> exact s.eventsKept_endJob _ _ _ _
    · exact State.eventsKept_of_events rfl
  | openStream f => exact State.eventsKept_of_events (by unfold State.openAccepted; dsimp only; repeat' split
                                                         all_goals simp)
  | opened f => exact State.eventsKept_of_events (by unfold State.openedAccepted; dsimp only; split <;> simp)
  | close f => exact State.eventsKept_of_events (by unfold State.closeAccepted; dsimp only; repeat' split
                                                    all_goals simp)
  | closed f => exact State.eventsKept_of_events (by unfold State.closedAccepted; dsimp only; split <;> simp)
  | dgq f => exact State.eventsKept_of_events (by unfold State.dgqAccepted; dsimp only; repeat' split
                                                  all_goals simp)

theorem CommandEffect.eventsKept {p : CmdParams} {f : State → State} (h : CommandEffect p f) (s : State) :
    s.eventsKept (f s) := by
  cases h with
  | closed => exact s.eventsKept_toClosing p.stream
  | reset =>
    dsimp only
    unfold State.doReset
    repeat' split
    · exact State.eventsKept_of_events rfl
    · exact s.eventsKept_resetSend _
    · exact State.eventsKept_of_events (by simp)
  | linkDisabled => exact s.eventsKept_doLinkDisable
  | linkRetrained => exact s.eventsKept_retrain _
  | auditAborted => exact s.eventsKept_endJob _ _ _ _
  | opened | openedClean | reopened | listening | linkEnabled | auditStarted | softReset =>
    exact State.eventsKept_of_events (by simp [State.doOpenClean, State.doReopen, State.doSoftReset])

theorem State.Written.eventsKept {s u : State} (h : s.Written u) : s.eventsKept u := by
  cases h with
  | window | config | settings | refused => exact State.eventsKept_of_events rfl
  | threshold g => exact (State.eventsKept_poolThresholdTest _).from_ rfl
  | command p f hf m m' => exact hf.eventsKept { s with mgmt := m }

theorem State.eventsKept_copyResponse (s : State) (st : Status) (d : LineBytes) :
    s.eventsKept (s.copyResponse st d) := by
  rcases s.copyResponse_cases st d with e | e | ⟨r, e⟩ <;> rw [e]
  · exact State.eventsKept_of_events rfl
  · exact State.eventsKept_of_events rfl
  let v := s.setEngine .idle
  have start : s.eventsKept v := State.eventsKept_of_events rfl
  generalize hu : v.copyCompleted r st d = u
  have leaves := hu ▸ v.copyCompleted_leaves r st d
  cases leaves with
  | dropped => exact start
  | noted => exact start.trans (State.eventsKept_put _ _ _ _)
  | failed =>
    have noted : s.eventsKept (v.memError r.stream r.line) := start.trans (State.eventsKept_put v _ _ _)
    unfold State.copyFailed
    dsimp only
    refine noted.trans (.trans ?_ (State.eventsKept_toDegraded _ _ _ _))
    split
    · exact State.eventsKept_mark _ _ _
    · exact State.eventsKept_of_events rfl
  | recorded slot rest =>
    refine start.trans ((State.eventsKept_create v r.stream slot rest ((v.stream r.stream).newRecord r.stream slot
      .copy r.line (Payload.ofLine d) .ready 0 none)).trans ?_)
    unfold State.copyCreated
    dsimp only
    split
    · exact (State.eventsKept_toActive _ _).from_ rfl
    · exact State.eventsKept_of_events rfl

theorem State.eventsKept_initiatorResponse (s : State) (st : Status) (d : LineBytes) :
    s.eventsKept (s.initiatorResponse st d) := by
  have ends (u : State) : u.eventsKept u.readingEnds := by
    unfold State.readingEnds
    dsimp only
    split
    · exact u.eventsKept_endJob _ _ _ _
    · exact State.eventsKept_of_events (by simp [State.setInitiator])
  unfold State.initiatorResponse
  dsimp only
  split
  · exact State.eventsKept_of_events rfl
  split
  · split
    · unfold State.initiatorLine
      dsimp only
      split
      · exact State.eventsKept_of_events rfl
      · exact (ends _).from_ rfl
    · exact (State.eventsKept_endJob _ _ _ _ _).from_ rfl
  · exact State.eventsKept_of_events rfl
  · exact State.eventsKept_of_events rfl

theorem State.eventsKept_mpResponse (s : State) (t : MpTag) (st : Status) (d : LineBytes) :
    s.eventsKept (s.mpResponse t st d) := by
  rcases s.mpResponse_cases t st d with e | ⟨m, e⟩ <;> rw [e]
  · exact State.eventsKept_of_events rfl
  unfold State.deliver
  split
  · unfold State.throughUse
    split
    · exact State.eventsKept_of_events rfl
    · exact (State.eventsKept_localComplete _ _ _ _).from_ rfl
    · split
      · exact State.eventsKept_of_events rfl
      · exact (State.eventsKept_put _ _ _ _).from_ rfl
  · exact State.eventsKept_of_events rfl
  · exact (State.eventsKept_copyResponse _ st d).from_ rfl
  · exact (State.eventsKept_initiatorResponse _ st d).from_ rfl
  · exact State.eventsKept_of_events (by simp [State.retireTag])

theorem State.eventsKept_popEvent (s : State) : s.eventsKept s.popEvent := by
  intro hs
  unfold State.popEvent
  dsimp only
  split
  · next h => exact hs
  · next e rest h =>
    rw [h, List.length_cons] at hs
    exact Nat.le_of_succ_le hs

theorem State.Effect.eventsKept {c : Instr} {s u : State} (h : s.Effect c u) : s.eventsKept u := by
  cases h with
  | slotWait =>
    unfold State.slotWaitExpired
    split
    · exact (State.TakenTo.tracked _).eventsKept.from_ rfl
    · exact State.eventsKept_of_events rfl
  | hold k =>
    unfold State.holdExpired
    split
    · exact State.eventsKept_of_events rfl
    · exact (State.eventsKept_put _ _ _ _).from_ (by simp)
  | response t st d => exact s.eventsKept_mpResponse t st d
  | hello f => exact s.eventsKept_helloArrives f
  | frame n owner howner =>
    rcases s.frameArrives_cases n owner with e | ⟨-, e | e⟩ <;> rw [e]
    · exact State.eventsKept_of_events rfl
    · exact (howner.eventsKept s.atAcceptance).from_ rfl
    · exact (State.eventsKept_retrain s.startSilence _).from_ rfl
  | badFrame =>
    unfold State.badFrame
    dsimp only
    repeat' split
    case h_4 => exact (State.eventsKept_retrain _ _).from_ rfl
    all_goals exact State.eventsKept_of_events rfl
  | unknownKind =>
    unfold State.unknownKind
    repeat' split
    case h_1 => exact (State.eventsKept_retrain _ _).from_ rfl
    all_goals exact State.eventsKept_of_events rfl
  | trainingTimer =>
    unfold State.trainingFailed
    refine State.eventsKept.trans ?_ (State.eventsKept_streamsDown _)
    exact State.eventsKept_of_put rfl rfl
  | silence => exact s.eventsKept_retrain _
  | handshake i =>
    unfold State.handshakeExpired
    dsimp only
    repeat' split
    · exact (State.eventsKept_toDegraded _ i _ _).from_ rfl
    all_goals exact State.eventsKept_of_events (by simp)
  | retransmit i => exact s.eventsKept_goBack i _
  | responseTimer => exact s.eventsKept_endJob _ _ _ _
  | written a write hwrite =>
    rcases s.spiWrite_cases a write with ⟨p, e⟩ | ⟨p, e⟩
    · rw [e]; exact State.eventsKept_of_events rfl
    · exact (hwrite.written (s.setSpi p) _ e).eventsKept.from_ rfl
  | read a =>
    unfold State.spiRead State.readEffect
    repeat' split
    · exact State.eventsKept_of_events rfl
    · exact (State.eventsKept_popEvent _).from_ rfl
    all_goals exact State.eventsKept_of_events rfl
  | completed => exact fun _ => State.eventsKept_put _ _ _ _ (Nat.zero_le _)
  | released => exact fun _ => Nat.zero_le _
  | quiet | joined | port | asserted => exact State.eventsKept_of_events rfl
  | delivered | combine | granted | transmitted | helloTimer | downTimer | keepalive | ackDelay | responderTimer =>
    exact State.eventsKept_of_events (by simp)

/-- Settles O8: each of the three properties is kept by every effect and by the end of the event. -/
theorem boundsKept : Obligations.BoundsKept := by
  refine ⟨creditsBounded_step, ?_, ?_⟩
  · intro s t ⟨hqueue, hcredits, hevents⟩ hstep
    have apply : t.applyBounded :=
      step_keeps (P := State.applyBounded) (fun _ _ _ h => h) (fun _ _ h => h) (fun _ _ _ h hu => hu.applyBounded h)
        settle_applyBounded s t ⟨hqueue, hcredits⟩ hstep
    have events : t.events.entries.length ≤ 32 :=
      step_keeps (P := fun u => u.events.entries.length ≤ 32) (fun _ _ _ h => h) (fun _ _ h => h)
        (fun _ _ _ h hu => hu.eventsKept h) (fun u hu => settle_eventsKept u hu) s t hevents hstep
    exact ⟨apply.1, apply.2, events⟩
  · exact fun s t hs hstep =>
      step_keeps (P := State.heldLinesDistinct) (fun _ _ _ h => h) (fun _ _ h => h)
        (fun _ _ _ h hu => hu.heldLinesDistinct h) settle_heldLinesDistinct s t hs hstep

end Sys2Proof.Machine
end


section
/-! PROOFS. The Record Pool stays partitioned (R21): the operations move slots between the free list and the send lists,
and lose or double none. -/

namespace Sys2Proof.Machine

/-- The slots of a stream's records. -/
def Stream.slots (st : Stream) : List Nat := st.sendList.map Record.slot

/-- The slots of the free list and of the send lists are, in some order, the same in both states. -/
def State.slotsMoved (s t : State) : Prop :=
  (t.pool.freeList ++ t.usedSlots).Perm (s.pool.freeList ++ s.usedSlots)

theorem State.poolPartitioned_of_slotsMoved {s t : State} (h : s.slotsMoved t) (hs : s.poolPartitioned) :
    t.poolPartitioned :=
  ⟨h.nodup_iff.mpr hs.1, fun n => h.mem_iff.trans (hs.2 n)⟩

theorem State.slotsMoved.trans {s t u : State} (h : s.slotsMoved t) (h' : t.slotsMoved u) : s.slotsMoved u :=
  List.Perm.trans h' h

/-! ### Moves at one stream -/

/-- The slots of the streams but one. -/
def State.slotsOutside (s : State) (i : StreamId) : List Nat := (allStreams.erase i).flatMap (fun j => (s.stream j).slots)

theorem State.usedSlots_perm (s : State) (i : StreamId) : s.usedSlots.Perm ((s.stream i).slots ++ s.slotsOutside i) :=
  (List.perm_cons_erase (mem_allStreams i)).flatMap_right (fun j => (s.stream j).slots)

theorem State.slotsOutside_congr {s t : State} {i : StreamId} (h : ∀ j, j ≠ i → (t.stream j).slots = (s.stream j).slots) :
    t.slotsOutside i = s.slotsOutside i := by
  unfold State.slotsOutside
  have nodup : allStreams.Nodup := by decide
  have same : ∀ j ∈ allStreams.erase i, (t.stream j).slots = (s.stream j).slots :=
    fun j hj => h j ((List.Nodup.mem_erase_iff nodup).mp hj).1
  rw [List.flatMap_def, List.flatMap_def, List.map_congr_left same]

/-- Slots moved between the free list and one send list. -/
theorem State.slotsMoved_at {s t : State} (i : StreamId) (others : ∀ j, j ≠ i → (t.stream j).slots = (s.stream j).slots)
    (moved : (t.pool.freeList ++ (t.stream i).slots).Perm (s.pool.freeList ++ (s.stream i).slots)) : s.slotsMoved t := by
  have split (u : State) : (u.pool.freeList ++ u.usedSlots).Perm
      ((u.pool.freeList ++ (u.stream i).slots) ++ u.slotsOutside i) := by
    rw [List.append_assoc]
    exact (u.usedSlots_perm i).append_left _
  have rest : t.slotsOutside i = s.slotsOutside i := State.slotsOutside_congr others
  calc (t.pool.freeList ++ t.usedSlots).Perm ((t.pool.freeList ++ (t.stream i).slots) ++ t.slotsOutside i) := split t
    List.Perm _ ((s.pool.freeList ++ (s.stream i).slots) ++ s.slotsOutside i) := by
      rw [rest]; exact moved.append_right _
    List.Perm _ (s.pool.freeList ++ s.usedSlots) := (split s).symm

theorem State.slotsMoved_of_slots {s t : State} (hp : t.pool.freeList = s.pool.freeList)
    (h : ∀ i, (t.stream i).slots = (s.stream i).slots) : s.slotsMoved t := by
  have used : t.usedSlots = s.usedSlots := by
    show allStreams.flatMap (fun i => (t.stream i).slots) = allStreams.flatMap (fun i => (s.stream i).slots)
    simp only [h]
  unfold State.slotsMoved
  rw [hp, used]

theorem State.slotsMoved_of_streams {s t : State} (hp : t.pool = s.pool) (h : t.streams = s.streams) : s.slotsMoved t :=
  State.slotsMoved_of_slots (by rw [hp]) fun i => by rw [State.stream_of_streams s t h i]

theorem State.slotsMoved.from_ {s t u : State} (h : t.slotsMoved u) (hp : t.pool = s.pool) (e : t.streams = s.streams) :
    s.slotsMoved u := (State.slotsMoved_of_streams hp e).trans h

theorem State.slotsMoved.to_ {s t u : State} (h : s.slotsMoved t) (hp : u.pool = t.pool) (e : u.streams = t.streams) :
    s.slotsMoved u := h.trans (State.slotsMoved_of_streams hp e)

theorem State.slotsMoved_modStream (s : State) (i : StreamId) (f : Stream → Stream)
    (h : (f (s.stream i)).slots = (s.stream i).slots) : s.slotsMoved (s.modStream i f) := by
  refine State.slotsMoved_of_slots rfl fun j => ?_
  by_cases hj : j = i
  · subst hj; rw [State.stream_modStream, h]
  · rw [State.stream_modStream_ne s i j f hj]

theorem State.slotsMoved_mapStreams (s : State) (f : StreamId → Stream → Stream)
    (h : ∀ i, (f i (s.stream i)).slots = (s.stream i).slots) : s.slotsMoved (s.mapStreams f) :=
  State.slotsMoved_of_slots rfl fun i => by rw [State.stream_mapStreams, h]

theorem State.slotsMoved_changeState (s : State) (i : StreamId) (x : StreamState) (c : Cause) (r : Reason) :
    s.slotsMoved (s.changeState i x c r) :=
  s.slotsMoved_modStream i (fun y => { y with state := x, cause := c, reason := r }) rfl

/-- A change of the records that leaves each its slot. -/
theorem Stream.slots_map (l : List Record) (f : Record → Record) (h : ∀ r, (f r).slot = r.slot) :
    (l.map f).map Record.slot = l.map Record.slot := by
  rw [List.map_map]
  exact List.map_congr_left fun r _ => h r

theorem Stream.slots_modRecord (st : Stream) (n : Nat) (f : Record → Record) (h : ∀ r, (f r).slot = r.slot) :
    (st.modRecord n f).slots = st.slots := by
  refine Stream.slots_map st.sendList _ fun r => ?_
  split
  · exact h r
  · rfl

theorem Stream.slots_noDeadline (st : Stream) :
    ({ st with sendList := st.sendList.map Record.noDeadline } : Stream).slots = st.slots :=
  Stream.slots_map st.sendList Record.noDeadline fun _ => rfl

theorem renumber_slots (q : Seq) (l : List Record) : (renumber q l).map Record.slot = l.map Record.slot := by
  induction l generalizing q with
  | nil => rfl
  | cons r rest ih => simp only [renumber, List.map_cons, ih]

theorem closeUp_slots (l : List Record) : (closeUp l).map Record.slot = l.map Record.slot := by
  cases l with
  | nil => rfl
  | cons r rest => exact renumber_slots _ _

/-! ### Creating and freeing -/

theorem State.freeSlots_freeList (s : State) (l : List Nat) : (s.freeSlots l).pool.freeList = s.pool.freeList ++ l := by
  unfold State.freeSlots State.poolRearm
  split
  · next h => rw [h, List.append_nil]
  · split <;> rfl

theorem State.poolFell_freeList (s : State) : s.poolFell.pool.freeList = s.pool.freeList := by
  unfold State.poolFell
  dsimp only
  split
  · simp
  · rfl

theorem State.poolThresholdTest_freeList (s : State) : s.poolThresholdTest.pool.freeList = s.pool.freeList := by
  unfold State.poolThresholdTest State.poolRearm
  repeat' split
  all_goals simp

/-- Slots of a stream that are freed join the free list (R21, R40). -/
theorem State.slotsMoved_freed (s : State) (i : StreamId) (f : Stream → Stream) (freed : List Nat)
    (h : (freed ++ (f (s.stream i)).slots).Perm (s.stream i).slots) :
    s.slotsMoved ((s.modStream i f).freeSlots freed) := by
  have streams : ((s.modStream i f).freeSlots freed).streams = (s.modStream i f).streams := by simp
  refine State.slotsMoved_at i (fun j hj => ?_) ?_
  · rw [State.stream_of_streams _ _ streams, State.stream_modStream_ne s i j f hj]
  · rw [State.stream_of_streams _ _ streams, State.stream_modStream, State.freeSlots_freeList, List.append_assoc]
    exact h.append_left _

/-- A record created in the first free slot takes that slot from the free list (R21, R22). -/
theorem State.slotsMoved_create (s : State) (i : StreamId) (n : Nat) (rest : List Nat) (r : Record)
    (h : s.pool.freeList = n :: rest) : s.slotsMoved (s.create i n rest r) := by
  let u := { s with pool := { s.pool with freeList := rest } }.modStream i (·.append { r with slot := n })
  have streams : (s.create i n rest r).streams = u.streams := (State.poolFell_frame u).2.2.1
  have free : (s.create i n rest r).pool.freeList = rest := State.poolFell_freeList u
  have slots : ((s.stream i).append { r with slot := n }).slots = (s.stream i).slots ++ [n] := by
    unfold Stream.append Stream.slots
    rw [List.map_append, Stream.slots_map _ Record.noDeadline fun _ => rfl]
    rfl
  refine State.slotsMoved_at i (fun j hj => ?_) ?_
  · rw [State.stream_of_streams _ _ streams]
    exact congrArg Stream.slots (State.stream_modStream_ne { s with pool := { s.pool with freeList := rest } } i j _ hj)
  · rw [State.stream_of_streams _ _ streams, State.stream_modStream, free, h]
    show (rest ++ ((s.stream i).append { r with slot := n }).slots).Perm _
    rw [slots, ← List.append_assoc, List.cons_append]
    exact List.perm_append_comm

theorem State.slotsMoved_flush (s : State) (i : StreamId) : s.slotsMoved (s.flush i) := by
  refine s.slotsMoved_freed i (fun st => { st with sendList := flushedList st.sendList }) _ ?_
  have kept : (flushedList (s.stream i).sendList).map Record.slot =
      ((s.stream i).sendList.filter Record.captured).map Record.slot := by
    unfold flushedList
    rw [closeUp_slots]
    exact Stream.slots_map _ (fun r => { r with discard := true, deadline := none }) fun _ => rfl
  show (((s.stream i).sendList.filter (fun r => !r.captured)).map Record.slot ++
    (flushedList (s.stream i).sendList).map Record.slot).Perm ((s.stream i).sendList.map Record.slot)
  rw [kept, ← List.map_append]
  exact (List.perm_append_comm.trans (List.filter_append_perm Record.captured _)).map Record.slot

/-- A slot taken out of a list that holds it once. -/
theorem perm_cons_filter_slot (l : List Record) (n : Nat) (h : n ∈ l.map Record.slot) (hl : (l.map Record.slot).Nodup) :
    (n :: (l.filter (fun r => r.slot != n)).map Record.slot).Perm (l.map Record.slot) := by
  have others : (l.filter (fun r => r.slot != n)).map Record.slot = (l.map Record.slot).filter (· != n) := by
    rw [List.filter_map]
    rfl
  rw [others, ← List.Nodup.erase_eq_filter hl n]
  exact (List.perm_cons_erase h).symm

theorem State.slots_nodup (s : State) (i : StreamId) (hs : s.poolPartitioned) : (s.stream i).slots.Nodup := by
  have used : s.usedSlots.Nodup := (List.nodup_append.mp hs.1).2.1
  exact (List.nodup_append.mp ((s.usedSlots_perm i).nodup_iff.mp used)).1

theorem State.slotsMoved_drained (s : State) (i : StreamId) : s.slotsMoved (s.drained i) := by
  unfold State.drained
  split
  · exact s.slotsMoved_modStream i _ rfl
  · exact State.slotsMoved_of_streams rfl rfl

theorem State.poolPartitioned_freeFlagged (s : State) (i : StreamId) (n : Nat) (hs : s.poolPartitioned) :
    (s.freeFlagged i n).poolPartitioned := by
  unfold State.freeFlagged
  split
  · exact hs
  · next r hfind =>
    have held : n ∈ (s.stream i).slots := by
      have slot : r.slot = n := by
        have := List.find?_some hfind
        simp only [Bool.and_eq_true, beq_iff_eq] at this
        exact this.1.1
      exact slot ▸ List.mem_map_of_mem (List.mem_of_find?_eq_some hfind)
    have moved : s.slotsMoved ((s.modStream i (fun st =>
        { st with sendList := closeUp (st.sendList.filter (fun r => r.slot != n)) })).freeSlots [n]) := by
      refine s.slotsMoved_freed i _ [n] ?_
      show (n :: (closeUp ((s.stream i).sendList.filter (fun r => r.slot != n))).map Record.slot).Perm
        ((s.stream i).sendList.map Record.slot)
      rw [closeUp_slots]
      exact perm_cons_filter_slot _ n held (s.slots_nodup i hs)
    exact State.poolPartitioned_of_slotsMoved (moved.trans (State.slotsMoved_drained _ i)) hs

/-! ### Marking and the moves of a stream -/

theorem State.slotsMoved_abortAudit (s : State) (i : StreamId) : s.slotsMoved (s.abortAudit i) :=
  State.slotsMoved_of_streams (by simp) (by simp)

theorem State.slotsMoved_mark (s : State) (i : StreamId) (g : Nat) : s.slotsMoved (s.mark i g) := by
  have marked := s.slotsMoved_modStream i (·.markDirty g) rfl
  unfold State.mark
  split
  · exact marked
  · exact marked
  · exact marked
  · exact (marked.trans (State.slotsMoved_abortAudit _ i)).trans (State.slotsMoved_changeState _ _ _ _ _)
  all_goals exact State.slotsMoved_of_streams rfl rfl

theorem State.slotsMoved_markRecords (l : List Record) (s : State) (i : StreamId) :
    s.slotsMoved (s.markRecords i l) := by
  induction l generalizing s with
  | nil => exact State.slotsMoved_of_streams rfl rfl
  | cons r rest ih => exact (s.slotsMoved_mark i _).trans (ih _)

theorem State.slotsMoved_toDegraded (s : State) (i : StreamId) (c : Cause) (r : Reason) :
    s.slotsMoved (s.toDegraded i c r) := by
  let s1 := (s.abortAudit i).changeState i .degraded c r
  have entered : s.slotsMoved s1 := (s.slotsMoved_abortAudit i).trans (State.slotsMoved_changeState _ _ _ _ _)
  have flushed : s1.slotsMoved (s1.flushMarking i) :=
    (s1.slotsMoved_markRecords _ i).trans (State.slotsMoved_flush _ i)
  have dropped (u : State) : u.slotsMoved (u.dropCopyMarked i) := by
    unfold State.dropCopyMarked
    split
    · exact State.slotsMoved_of_streams rfl rfl
    · exact (u.slotsMoved_modStream i _ rfl).trans (State.slotsMoved_mark _ i _)
  have cleared (u : State) : u.slotsMoved (u.modStream i (fun st => { st.clearSend.clearHandshake with retryCount := 0 })) :=
    u.slotsMoved_modStream i _ rfl
  have left (u : State) : u.slotsMoved ((u.answerStream i).engineLeave i) :=
    State.slotsMoved_of_streams (by simp) (by simp)
  exact (((entered.trans flushed).trans (dropped _)).trans (cleared _)).trans (left _)

theorem State.slotsMoved_toOpening (s : State) (i : StreamId) (c : Cause) : s.slotsMoved (s.toOpening i c) :=
  (s.slotsMoved_modStream i _ rfl).trans (State.slotsMoved_changeState _ _ _ _ _)

theorem State.slotsMoved_closingToOff (s : State) (i : StreamId) (c : Cause) (r : Reason) :
    s.slotsMoved (s.closingToOff i c r) :=
  ((s.slotsMoved_flush i).trans (State.slotsMoved_modStream _ i (fun st => st.clearSend.clearHandshake) rfl)).trans
    (State.slotsMoved_changeState _ _ _ _ _)

theorem State.slotsMoved_toClosing (s : State) (i : StreamId) : s.slotsMoved (s.toClosing i) := by
  let s1 := (s.abortAudit i).modStream i (fun st =>
    { st with copyPos := none, dirty := [], closeSent := false, handshakeDue := false, handshakeTimer := none })
  have cleared : s.slotsMoved s1 := (s.slotsMoved_abortAudit i).trans (State.slotsMoved_modStream _ i _ rfl)
  have entered : s.slotsMoved (s1.changeState i .closing .command .none) :=
    cleared.trans (State.slotsMoved_changeState _ _ _ _ _)
  have left (u : State) : u.slotsMoved ((u.answerStream i).engineLeave i) :=
    State.slotsMoved_of_streams (by simp) (by simp)
  exact (entered.trans (left _)).trans (State.slotsMoved_drained _ i)

theorem State.slotsMoved_resetSend (s : State) (i : StreamId) : s.slotsMoved (s.resetSend i) := by
  let s1 := (s.abortAudit i).flush i
  have flushed : s.slotsMoved s1 := (s.slotsMoved_abortAudit i).trans (State.slotsMoved_flush _ i)
  have cleared (u : State) : u.slotsMoved (u.modStream i (fun st =>
    { st.clearSend.clearHandshake with dirty := [], copyPos := none, retryCount := 0 })) :=
    u.slotsMoved_modStream i _ rfl
  have left (u : State) : u.slotsMoved ((u.answerStream i).engineLeave i) :=
    State.slotsMoved_of_streams (by simp) (by simp)
  have core : s.slotsMoved (s.sendCleared i) :=
    ((flushed.trans (cleared _)).trans (State.slotsMoved_changeState _ _ _ _ _)).trans (left _)
  rw [State.resetSend_eq]
  obtain ⟨-, pool, streams, -⟩ := (s.sendCleared i).requestReset_frame i (s.stream i).session
  exact core.to_ pool streams

theorem State.slotsMoved_leaveBound (s : State) (i : StreamId) (x : StreamState) (c : Cause) (r : Reason) :
    s.slotsMoved (s.leaveBound i x c r) := by
  have cleared : s.slotsMoved ((s.staleEntries i).modStream i Stream.clearReceive) :=
    (State.slotsMoved_modStream _ i _ rfl).from_ (by simp) (by simp)
  have refused (u : State) : u.slotsMoved (u.refuseResponder i) := State.slotsMoved_of_streams (by simp) (by simp)
  exact (cleared.trans (refused _)).trans (State.slotsMoved_changeState _ _ _ _ _)

theorem State.slotsMoved_bind (s : State) (i : StreamId) (ses : Session) : s.slotsMoved (s.bind i ses) := by
  have cleared : s.slotsMoved ((s.staleEntries i).modStream i (fun st =>
      { st.clearReceive with session := ses, acceptSeq := 0#16, appliedSeq := 65535#16 })) :=
    (State.slotsMoved_modStream _ i _ rfl).from_ (by simp) (by simp)
  have refused (u : State) : u.slotsMoved (u.refuseResponder i) := State.slotsMoved_of_streams (by simp) (by simp)
  exact (cleared.trans (refused _)).trans (State.slotsMoved_changeState _ _ _ _ _)

theorem State.slotsMoved_retryExhausted (s : State) (i : StreamId) : s.slotsMoved (s.retryExhausted i) := by
  unfold State.retryExhausted
  split
  · exact s.slotsMoved_toDegraded i _ _
  · exact s.slotsMoved_toDegraded i _ _
  · exact s.slotsMoved_closingToOff i _ _
  · exact State.slotsMoved_of_streams rfl rfl

theorem State.slotsMoved_eachStream (s : State) (f : State → StreamId → State) (h : ∀ u i, State.slotsMoved u (f u i))
    (l : List StreamId) : s.slotsMoved (s.eachStream f l) := by
  induction l generalizing s with
  | nil => exact State.slotsMoved_of_streams rfl rfl
  | cons i rest ih => exact (h s i).trans (ih _)

theorem State.slotsMoved_streamsDown (s : State) : s.slotsMoved s.streamsDown := by
  refine s.slotsMoved_eachStream State.streamDown (fun u i => ?_) allStreams
  unfold State.streamDown
  split
  · exact u.slotsMoved_toDegraded i _ _
  · exact u.slotsMoved_toDegraded i _ _
  · exact u.slotsMoved_toDegraded i _ _
  · exact u.slotsMoved_closingToOff i _ _
  · exact u.slotsMoved_leaveBound i _ _ _
  all_goals exact State.slotsMoved_of_streams rfl rfl

theorem State.slotsMoved_streamsUp (s : State) : s.slotsMoved s.streamsUp := by
  refine .trans (s.slotsMoved_mapStreams (fun _ st => st.linkReachedUp) fun _ => rfl) ?_
  refine State.slotsMoved_eachStream _ State.autoReopen (fun u i => ?_) allStreams
  unfold State.autoReopen
  dsimp only
  split
  · exact u.slotsMoved_toOpening i _
  · exact State.slotsMoved_of_streams rfl rfl

theorem State.slotsMoved_leaveUp (s : State) : s.slotsMoved s.leaveUp :=
  s.slotsMoved_mapStreams (fun _ st => st.linkLeftUp) fun _ => rfl

theorem State.slotsMoved_retrain (s : State) (c : RetrainCause) : s.slotsMoved (s.retrain c) := by
  unfold State.retrain
  refine State.slotsMoved.to_ ?_ (State.enterTraining_frame _).2.2.1 (State.enterTraining_frame _).2.2.2.1
  exact (State.slotsMoved_leaveUp _).from_ (by simp) (by simp)

theorem State.slotsMoved_reachUp (s : State) (x : Option Byte) : s.slotsMoved (s.reachUp x) := by
  unfold State.reachUp
  exact (State.slotsMoved_streamsUp _).from_ (by simp) (by simp)

theorem State.slotsMoved_doLinkDisable (s : State) : s.slotsMoved s.doLinkDisable := by
  have left : s.slotsMoved (if s.link.state = .up then s.leaveUp else s) := by
    split
    · exact s.slotsMoved_leaveUp
    · exact State.slotsMoved_of_streams rfl rfl
  unfold State.doLinkDisable
  split
  · exact State.slotsMoved_of_streams rfl rfl
  · exact State.slotsMoved_of_streams rfl rfl
  all_goals
    refine left.trans ((State.slotsMoved_streamsDown _).from_ ?_ ?_)
    · exact (State.put_pool _ _ _ _).trans rfl
    · exact (State.put_streams _ _ _ _).trans rfl

/-! ### Offers and releases -/

theorem State.slotsMoved_offer (s : State) (i : StreamId) (l : LineIndex) (p : Payload) :
    s.slotsMoved (s.offer i l p).2 := by
  unfold State.offer
  split
  · exact s.slotsMoved_modStream i _ (Stream.slots_modRecord _ _ _ fun _ => rfl)
  · split
    · split
      · next n rest hfree => exact s.slotsMoved_create i n rest _ hfree
      · exact State.slotsMoved_of_streams rfl rfl
    · exact State.slotsMoved_of_streams rfl rfl

theorem State.slotsMoved_release (s : State) (k : Fin 4) : s.slotsMoved (s.release k) := by
  unfold State.release
  split
  · exact State.slotsMoved_of_streams rfl rfl
  · next h hk =>
    have offered := (State.slotsMoved_offer (s.emptyHold k) h.stream ((s.stream h.stream).cfg.lineIndex h.addr)
      (lanesPayload (bytePos h.addr) h.lanes)).from_ (s := s) (by simp) (by simp)
    dsimp only
    split <;> rename_i heq <;> rw [heq] at offered
    · exact offered.to_ (by simp) (by simp)
    · exact offered.to_ (by simp) (by simp)
    · refine (offered.trans (State.slotsMoved_mark _ h.stream _)).to_ (State.forward_frame _ _ _).2.2.1
        (State.forward_frame _ _ _).2.2.2.1

theorem State.slotsMoved_testHolds (l : List (Fin 4)) (s : State) : s.slotsMoved (s.testHolds l) := by
  induction l generalizing s with
  | nil => exact State.slotsMoved_of_streams rfl rfl
  | cons k rest ih =>
    unfold State.testHolds
    split
    · split
      · exact (s.slotsMoved_release k).trans (ih _)
      · exact ih s
    · exact ih s

theorem State.slotsMoved_toActive (s : State) (i : StreamId) : s.slotsMoved (s.toActive i) := by
  unfold State.toActive State.testReleases
  refine State.slotsMoved.trans ?_ (State.slotsMoved_testHolds _ _)
  exact (s.slotsMoved_changeState i .active .clean .none).to_ (by simp) (by simp)

/-! ### The effects -/

theorem State.slotsMoved_goBack (s : State) (i : StreamId) (q : Option Seq) : s.slotsMoved (s.goBack i q) := by
  unfold State.goBack
  dsimp only
  split
  · exact (s.slotsMoved_modStream i _ rfl).trans (State.slotsMoved_retryExhausted _ i)
  · exact s.slotsMoved_modStream i _ rfl

theorem State.slotsMoved_nakAccepted (f : NakFrame) (s : State) : s.slotsMoved (State.nakAccepted f s) := by
  have same : s.slotsMoved s := State.slotsMoved_of_streams rfl rfl
  unfold State.nakAccepted
  repeat' split
  · unfold State.nakGap
    dsimp only
    repeat' split
    · exact s.slotsMoved_modStream _ _ rfl
    · exact s.slotsMoved_goBack _ _
    · exact same
  · unfold State.nakRefused
    split
    · exact s.slotsMoved_toDegraded _ _ _
    · exact s.slotsMoved_toDegraded _ _ _
    · exact s.slotsMoved_closingToOff _ _ _
    · exact same
  all_goals exact same

/-- An ACK with progress frees the oldest records (R88). -/
theorem State.slotsMoved_ackProgress (s : State) (i : StreamId) (q : Seq) : s.slotsMoved (s.ackProgress i q) := by
  unfold State.ackProgress State.testReleases
  refine State.slotsMoved.trans ?_ (State.slotsMoved_drained _ i)
  refine State.slotsMoved.trans ?_ (State.slotsMoved_testHolds _ _)
  refine s.slotsMoved_freed i _ _ ?_
  show (((s.stream i).sendList.take _).map Record.slot ++ ((s.stream i).sendList.drop _).map Record.slot).Perm
    ((s.stream i).sendList.map Record.slot)
  rw [← List.map_append, List.take_append_drop]

theorem State.slotsMoved_creditReturn (s : State) (n : Byte) (owner : State → State)
    (howner : ∀ u : State, u.slotsMoved (owner u)) : s.slotsMoved (s.creditReturn n owner) := by
  rcases s.creditReturn_cases n owner with ⟨-, e⟩ | e <;> rw [e]
  · exact (howner _).from_ rfl rfl
  · exact s.slotsMoved_retrain _

theorem State.slotsMoved_trainingHello (s : State) (f : HelloFrame) : s.slotsMoved (s.trainingHello f) := by
  have up (x : Option Byte) : s.slotsMoved ((s.partnerHeard f).reachUp x) :=
    (State.slotsMoved_reachUp (s.partnerHeard f) x).from_ rfl rfl
  rcases s.trainingHello_cases f with e | e | e <;> rw [e]
  · exact State.slotsMoved_of_streams rfl rfl
  · exact up _
  · exact (up _).trans (State.slotsMoved_creditReturn _ _ id fun u => State.slotsMoved_of_streams rfl rfl)

theorem State.slotsMoved_helloArrives (s : State) (f : HelloFrame) : s.slotsMoved (s.helloArrives f) := by
  generalize hu : s.helloArrives f = u
  have leaves := hu ▸ s.helloArrives_leaves f
  cases leaves with
  | ignored | silent | adverts => exact State.slotsMoved_of_streams rfl rfl
  | inDown | inTraining => exact (State.slotsMoved_trainingHello _ f).from_ rfl rfl
  | accepted =>
    exact (State.slotsMoved_creditReturn s.atAcceptance f.count (fun u => u.withPartner f.identity)
        fun u => State.slotsMoved_of_streams rfl rfl).from_ rfl rfl
  | gap => exact (State.slotsMoved_retrain _ _).from_ rfl rfl
  | partnerTrains =>
    exact ((State.slotsMoved_retrain s.startSilence _).from_ rfl rfl).trans (State.slotsMoved_trainingHello _ f)

theorem State.slotsMoved_recAccepted (f : RecFrame) (s : State) : s.slotsMoved (State.recAccepted f s) := by
  have dropped : s.slotsMoved s.creditPending := State.slotsMoved_of_streams (by simp) (by simp)
  have asked (n : NakSlot) : s.slotsMoved (s.creditPending.requestNak f.target n) :=
    dropped.trans (State.slotsMoved_modStream _ _ _ rfl)
  unfold State.recAccepted
  split
  · exact s.slotsMoved_retrain _
  split
  · exact dropped
  · unfold State.examineRec
    dsimp only
    repeat' split
    · exact asked _
    · exact dropped
    · exact State.slotsMoved_modStream s f.target
        (fun st => { st with acceptSeq := st.acceptSeq + 1, nakOutstanding := false }) rfl
    · exact (asked _).trans (State.slotsMoved_leaveBound _ _ _ _ _)
    · exact dropped.trans (State.slotsMoved_modStream _ _ _ rfl)
    · unfold State.recGap
      dsimp only
      split
      · exact dropped
      · exact (asked _).trans (State.slotsMoved_modStream _ _ _ rfl)
    · exact dropped

theorem FrameOwner.slotsMoved {owner : State → State} (h : FrameOwner owner) (s : State) : s.slotsMoved (owner s) := by
  have same : s.slotsMoved s := State.slotsMoved_of_streams rfl rfl
  cases h with
  | record f => exact s.slotsMoved_recAccepted f
  | ack f =>
    refine s.slotsMoved_creditReturn _ (State.ackAccepted f) fun u => ?_
    unfold State.ackAccepted
    dsimp only
    split
    · exact u.slotsMoved_ackProgress _ _
    · exact State.slotsMoved_of_streams rfl rfl
  | nak f => exact s.slotsMoved_creditReturn _ (State.nakAccepted f) (State.slotsMoved_nakAccepted f)
  | openStream f =>
    unfold State.openAccepted
    dsimp only
    repeat' split
    case isFalse.isFalse.isFalse.isFalse.isFalse =>
      exact (s.slotsMoved_bind f.target f.session).to_ rfl rfl
    all_goals exact State.slotsMoved_of_streams rfl rfl
  | opened f =>
    unfold State.openedAccepted
    dsimp only
    split
    · exact (s.slotsMoved_modStream _ _ rfl).trans (State.slotsMoved_changeState _ _ _ _ _)
    · exact same
  | refuse f =>
    unfold State.refuseAccepted
    repeat' split
    · exact same
    · exact s.slotsMoved_toDegraded _ _ _
    · exact same
  | close f =>
    unfold State.closeAccepted
    dsimp only
    repeat' split
    · exact (s.slotsMoved_leaveBound f.target .listen .peerClose .none).to_ rfl rfl
    · exact State.slotsMoved_of_streams rfl rfl
    · exact same
    · exact same
  | closed f =>
    unfold State.closedAccepted
    dsimp only
    split
    · exact s.slotsMoved_closingToOff _ _ _
    · exact same
  | dgq f =>
    refine State.slotsMoved_of_streams ?_ ?_ <;> unfold State.dgqAccepted <;> dsimp only <;> repeat' split
    all_goals simp
  | dgr f =>
    refine State.slotsMoved_of_streams ?_ ?_ <;> unfold State.dgrAccepted <;> repeat' split
    all_goals simp

theorem CommandEffect.slotsMoved {p : CmdParams} {f : State → State} (h : CommandEffect p f) (s : State) :
    s.slotsMoved (f s) := by
  cases h with
  | opened => exact (s.slotsMoved_modStream p.stream _ rfl).trans (State.slotsMoved_toOpening _ _ _)
  | openedClean => exact s.slotsMoved_toOpening _ _
  | reopened => exact s.slotsMoved_toOpening _ _
  | closed => exact s.slotsMoved_toClosing p.stream
  | listening => exact (s.slotsMoved_modStream p.stream _ rfl).trans (State.slotsMoved_changeState _ _ _ _ _)
  | reset =>
    dsimp only
    unfold State.doReset
    repeat' split
    · exact State.slotsMoved_of_streams rfl rfl
    · exact s.slotsMoved_resetSend _
    · exact s.slotsMoved_leaveBound _ _ _ _
  | linkDisabled => exact s.slotsMoved_doLinkDisable
  | linkRetrained => exact s.slotsMoved_retrain _
  | softReset =>
    have answered : s.slotsMoved (s.answerHolds s.slotsInOrder) := State.slotsMoved_of_streams (by simp) (by simp)
    refine State.slotsMoved.to_ (answered.trans (State.slotsMoved_mapStreams _ (fun _ st => st.stopTimers) fun i => ?_))
      rfl rfl
    exact Stream.slots_noDeadline _
  | linkEnabled | auditStarted | auditAborted => exact State.slotsMoved_of_streams (by simp) (by simp)

theorem State.Written.slotsMoved {s u : State} (h : s.Written u) : s.slotsMoved u := by
  cases h with
  | window | settings | refused => exact State.slotsMoved_of_streams rfl rfl
  | config i c => exact s.slotsMoved_modStream i _ rfl
  | threshold g =>
    exact State.slotsMoved_of_slots (State.poolThresholdTest_freeList _) fun i => by
      rw [State.stream_of_streams s _ (by simp) i]
  | command p f hf m m' => exact hf.slotsMoved { s with mgmt := m }

theorem State.slotsMoved_copyResponse (s : State) (st : Status) (d : LineBytes) :
    s.slotsMoved (s.copyResponse st d) := by
  rcases s.copyResponse_cases st d with e | e | ⟨r, e⟩ <;> rw [e]
  · exact State.slotsMoved_of_streams rfl rfl
  · exact State.slotsMoved_of_streams rfl rfl
  let v := s.setEngine .idle
  have start : s.slotsMoved v := State.slotsMoved_of_streams rfl rfl
  generalize hu : v.copyCompleted r st d = u
  have leaves := hu ▸ v.copyCompleted_leaves r st d
  cases leaves with
  | dropped => exact start
  | noted => exact start.to_ (by simp) (by simp)
  | failed =>
    have noted : s.slotsMoved (v.memError r.stream r.line) := start.to_ (by simp) (by simp)
    unfold State.copyFailed
    dsimp only
    refine noted.trans (State.slotsMoved.trans ?_ (State.slotsMoved_toDegraded _ _ _ _))
    split
    · exact State.slotsMoved_mark _ _ _
    · exact State.slotsMoved_of_streams rfl rfl
  | recorded slot rest hfree =>
    refine start.trans (State.slotsMoved.trans (State.slotsMoved_create v r.stream slot rest
      ((v.stream r.stream).newRecord r.stream slot .copy r.line (Payload.ofLine d) .ready 0 none) hfree) ?_)
    unfold State.copyCreated
    dsimp only
    have advanced (w : State) : w.slotsMoved (w.modStream r.stream Stream.advanceCopy) := by
      refine w.slotsMoved_modStream _ _ ?_
      unfold Stream.advanceCopy
      split <;> rfl
    split
    · exact (advanced _).trans (State.slotsMoved_toActive _ _)
    · exact advanced _

theorem State.poolPartitioned_localComplete (s : State) (i : StreamId) (n : Nat) (x : Status) (hs : s.poolPartitioned) :
    (s.localComplete i n x).poolPartitioned := by
  have moved {t : State} (h : s.slotsMoved t) : t.poolPartitioned := State.poolPartitioned_of_slotsMoved h hs
  have changed (f : Record → Record) (h : ∀ r, (f r).slot = r.slot) :
      s.slotsMoved (s.modStream i (·.modRecord n f)) :=
    s.slotsMoved_modStream i _ (Stream.slots_modRecord _ _ _ h)
  have completed (r : Record) : r.completed.slot = r.slot := by
    unfold Record.completed Record.settled
    split <;> rfl
  have noted (u : State) (l : LineIndex) : u.slotsMoved (u.memError i l) :=
    State.slotsMoved_of_streams (by simp) (by simp)
  unfold State.localComplete
  dsimp only
  split
  · exact hs
  · split
    · split
      · exact State.poolPartitioned_freeFlagged _ i n (moved (changed _ fun _ => rfl))
      · refine State.poolPartitioned_freeFlagged _ i n ?_
        refine State.poolPartitioned_of_slotsMoved (State.slotsMoved_mark _ _ _) ?_
        refine State.poolPartitioned_of_slotsMoved (noted _ _) ?_
        exact moved (changed _ fun _ => rfl)
    · split
      · exact moved (changed _ completed)
      · refine State.poolPartitioned_of_slotsMoved (noted _ _) ?_
        refine State.poolPartitioned_of_slotsMoved (State.slotsMoved_mark _ _ _) ?_
        exact moved (changed _ fun r => completed r.voided)

theorem State.poolPartitioned_mpResponse (s : State) (t : MpTag) (st : Status) (d : LineBytes) (hs : s.poolPartitioned) :
    (s.mpResponse t st d).poolPartitioned := by
  have moved {t : State} (h : s.slotsMoved t) : t.poolPartitioned := State.poolPartitioned_of_slotsMoved h hs
  rcases s.mpResponse_cases t st d with e | ⟨m, e⟩ <;> rw [e]
  · exact hs
  unfold State.deliver
  split
  · unfold State.throughUse
    split
    · exact hs
    · exact State.poolPartitioned_localComplete _ _ _ _ hs
    · split
      · exact hs
      · exact moved (State.slotsMoved_of_streams (by simp [State.retireTag]) (by simp [State.retireTag]))
  · exact hs
  · exact moved ((State.slotsMoved_copyResponse _ st d).from_ rfl rfl)
  · exact moved (State.slotsMoved_of_streams (by simp [State.retireTag]) (by simp [State.retireTag]))
  · exact moved (State.slotsMoved_of_streams (by simp [State.retireTag]) (by simp [State.retireTag]))

/-- A grant changes no record's slot (R86). -/
theorem State.slotsMoved_transmitGrant (s : State) : s.slotsMoved s.transmitGrant := by
  have same : s.slotsMoved s := State.slotsMoved_of_streams rfl rfl
  have class2 (u : State) (q : AckNakReq) : u.slotsMoved (u.grant2 q) := by
    unfold State.grant2
    split
    · exact (State.slotsMoved_modStream _ _ _ rfl).from_ rfl rfl
    · split
      · exact (State.slotsMoved_modStream _ _ _ rfl).from_ rfl rfl
      · exact State.slotsMoved_of_streams rfl rfl
  have class3 (u : State) (q : HandshakeReq) : u.slotsMoved (u.grant3 q) := by
    unfold State.grant3
    dsimp only
    split
    · exact (State.slotsMoved_modStream _ _ _ rfl).from_ rfl rfl
    · refine State.slotsMoved.trans ?_ (State.slotsMoved_modStream _ _ _ rfl)
      exact (State.slotsMoved_modStream _ _ _ rfl).from_ rfl rfl
    all_goals exact State.slotsMoved_of_streams rfl rfl
  have class4 (u : State) (q : AuditReq) : u.slotsMoved (u.grant4 q) :=
    State.slotsMoved_of_streams (by simp) (by unfold State.grant4; repeat' split
                                              all_goals rfl)
  have class5 : s.slotsMoved s.grant5 := by
    unfold State.grant5
    split
    · exact same
    split
    · exact same
    · next i _ =>
      split
      · next r _ =>
        have taken : ((s.stream i).taken r (s.ackTimer i)).slots = (s.stream i).slots :=
          Stream.slots_modRecord _ _ (fun x => { x with state := .sent }) fun _ => rfl
        exact (State.slotsMoved_modStream s i (fun st => st.taken r (s.ackTimer i)) taken).from_ rfl rfl
      · exact same
  have confirmed : s.slotsMoved s.grantConfirmed := by
    unfold State.grantConfirmed
    split
    · exact (class2 _ _).from_ rfl rfl
    · split
      · exact (class3 _ _).from_ rfl rfl
      · split
        · exact (class4 _ _).from_ rfl rfl
        · exact class5
  unfold State.transmitGrant
  repeat' split
  case isFalse.isTrue => exact confirmed
  all_goals exact State.slotsMoved_of_streams rfl rfl

theorem State.poolPartitioned_reset {s : State} (hfree : s.pool.freeList = List.range 512)
    (h : ∀ i, (s.stream i).sendList = []) : s.poolPartitioned := by
  have none : s.usedSlots = [] := by
    unfold State.usedSlots
    simp [h]
  unfold State.poolPartitioned
  rw [hfree, none, List.append_nil]
  exact ⟨List.nodup_range, fun n => List.mem_range⟩

theorem State.powerOn_freeList (s : State) : s.powerOn.pool.freeList = List.range 512 := by
  delta State.powerOn State.reset Pool.reset
  with_reducible rfl

theorem State.stream_powerOn (s : State) (i : StreamId) : s.powerOn.stream i = Stream.reset := by
  match i with
  | 0 | 1 | 2 | 3 | 4 | 5 | 6 | 7 => rfl

/-! ### The end of an event -/

theorem State.slotsMoved_retire (s : State) (e : ApplyEntry) (o : ApplyOutcome) : s.slotsMoved (s.retire e o) := by
  have popped : s.slotsMoved s.headPopped :=
    State.slotsMoved_of_streams (by simp [State.headPopped]) (by simp [State.headPopped])
  have failed : s.slotsMoved (s.headPopped.applyError e) := popped.to_ (by simp) (by simp)
  rcases s.retire_cases e o with h | h | h | h <;> rw [h]
  · exact popped
  · exact failed
  · unfold State.retireOkay
    exact (popped.trans (State.slotsMoved_modStream s.headPopped e.stream _ rfl)).to_
      (State.responderApplied_frame _ _ _ _).2.2.1 (State.responderApplied_frame _ _ _ _).2.2.2.1
  · unfold State.refuseApply
    exact (failed.trans (State.slotsMoved_modStream _ _ _ rfl)).trans (State.slotsMoved_leaveBound _ _ _ _ _)

theorem State.TakenTo.slotsMoved {s t : State} {r : SpRequest} (h : s.TakenTo r t) : s.slotsMoved t := by
  cases h with
  | answered | plain | refused => exact State.slotsMoved_of_streams (by simp) (by simp)
  | tracked i =>
    exact (s.slotsMoved_mark i _).to_ (State.forward_frame _ _ _).2.2.1 (State.forward_frame _ _ _).2.2.2.1
  | placed i slot line p h =>
    exact (s.slotsMoved_offer i line p).to_ (State.forward_frame _ _ _).2.2.1 (State.forward_frame _ _ _).2.2.2.1
  | held k i lanes =>
    exact (State.slotsMoved_modStream (s.setHold k _) i _ (Stream.slots_noDeadline _)).from_ rfl rfl

theorem State.slotsMoved_serviceSearch (s : State) : s.slotsMoved s.serviceSearch := by
  have searched (l : List StreamId) (u : State) : u.slotsMoved (u.searchOver l) := by
    induction l generalizing u with
    | nil => exact State.slotsMoved_of_streams rfl rfl
    | cons i rest ih =>
      have started : u.slotsMoved (u.modStream i Stream.startGranule) := by
        refine u.slotsMoved_modStream i _ ?_
        rw [Stream.startGranule_frame]
        rfl
      unfold State.searchOver
      dsimp only
      split
      · split
        · exact started.to_ (by simp) (by simp)
        · exact started.trans (ih _)
      · exact ih u
  unfold State.serviceSearch
  split
  · exact searched _ s
  · exact State.slotsMoved_of_streams rfl rfl

theorem settle_slotsMoved (s : State) : s.slotsMoved (settle s) := by
  refine EndKeeps.settled (P := fun t => s.slotsMoved t) ⟨?_, ?_, ?_, ?_, ?_, ?_, ?_, ?_⟩ s
    (State.slotsMoved_of_streams rfl rfl)
  · exact fun t h => h
  · exact fun t e o h => h.trans (t.slotsMoved_retire e o)
  · exact fun t h => h.to_ (by simp) (by simp)
  · exact fun t r u h hu => h.trans (hu.slotsMoved.from_ rfl rfl)
  · exact fun t w h => h
  · exact fun t h => h.trans t.slotsMoved_serviceSearch
  · exact fun t n h => h
  · exact fun t h => h

theorem State.Effect.poolPartitioned {c : Instr} {s u : State} (h : s.Effect c u) (hs : s.poolPartitioned) :
    u.poolPartitioned := by
  have moved {t : State} (h : s.slotsMoved t) : t.poolPartitioned := State.poolPartitioned_of_slotsMoved h hs
  cases h with
  | slotWait =>
    unfold State.slotWaitExpired
    split
    · exact moved ((State.TakenTo.tracked _).slotsMoved.from_ rfl rfl)
    · exact hs
  | combine i => exact moved (s.slotsMoved_modStream i _ (Stream.slots_noDeadline _))
  | response t st d => exact s.poolPartitioned_mpResponse t st d hs
  | transmitted => exact moved s.slotsMoved_transmitGrant
  | hello f => exact moved (s.slotsMoved_helloArrives f)
  | frame n owner howner =>
    rcases s.frameArrives_cases n owner with e | ⟨-, e | e⟩ <;> rw [e]
    · exact hs
    · exact moved ((howner.slotsMoved s.atAcceptance).from_ rfl rfl)
    · exact moved ((State.slotsMoved_retrain s.startSilence _).from_ rfl rfl)
  | badFrame =>
    unfold State.badFrame
    dsimp only
    repeat' split
    case h_4 => exact moved ((State.slotsMoved_retrain _ _).from_ rfl rfl)
    all_goals exact hs
  | unknownKind =>
    unfold State.unknownKind
    repeat' split
    case h_1 => exact moved ((State.slotsMoved_retrain _ _).from_ rfl rfl)
    all_goals exact hs
  | trainingTimer =>
    unfold State.trainingFailed
    exact moved ((State.slotsMoved_streamsDown _).from_ (by simp) (by simp))
  | silence => exact moved (s.slotsMoved_retrain _)
  | handshake i =>
    refine moved ?_
    have counted (n : Nat) : s.slotsMoved (s.modStream i (fun st => { st with retryCount := n, handshakeTimer := none })) :=
      s.slotsMoved_modStream i _ rfl
    unfold State.handshakeExpired
    dsimp only
    repeat' split
    · exact (counted _).trans (State.slotsMoved_toDegraded _ i _ _)
    · exact (counted _).trans (State.slotsMoved_closingToOff _ i _ _)
    · exact counted _
    · exact (counted _).trans (State.slotsMoved_modStream _ i _ rfl)
  | retransmit i => exact moved (s.slotsMoved_goBack i _)
  | ackDelay i => exact moved (s.slotsMoved_modStream i _ rfl)
  | written a write hwrite =>
    rcases s.spiWrite_cases a write with ⟨p, e⟩ | ⟨p, e⟩
    · rw [e]; exact hs
    · exact moved ((hwrite.written (s.setSpi p) _ e).slotsMoved.from_ rfl rfl)
  | read a =>
    unfold State.spiRead
    split
    · exact hs
    · refine moved ?_
      rw [readEffect_frame]
      exact State.slotsMoved_of_slots rfl fun _ => rfl
  | completed =>
    have free : s.finishSoftReset.pool.freeList = List.range 512 :=
      (congrArg Pool.freeList (State.put_pool _ _ _ _)).trans s.powerOn_freeList
    refine State.poolPartitioned_reset free fun i => ?_
    rw [State.stream_of_streams s.powerOn s.finishSoftReset (State.put_streams _ _ _ _) i, s.stream_powerOn]
    rfl
  | released => exact State.poolPartitioned_reset s.powerOn_freeList fun i => by rw [s.stream_powerOn]; rfl
  | quiet | joined | port | asserted | helloTimer | downTimer | keepalive => exact hs
  | delivered | hold | granted | responseTimer | responderTimer =>
    exact moved (State.slotsMoved_of_streams (by simp) (by simp))

/-- Settles O7: effects and the end of the event move slots, and a flagged record's slot is freed once. -/
theorem poolPartitionKept : Obligations.PoolPartitionKept := by
  intro s t hs hstep
  exact step_keeps (P := State.poolPartitioned) (fun _ _ _ h => h) (fun _ _ h => h)
    (fun _ _ _ h hu => hu.poolPartitioned h)
    (fun u hu => State.poolPartitioned_of_slotsMoved (settle_slotsMoved u) hu) s t hs hstep

end Sys2Proof.Machine
end


section
/-! PROOFS. The step and the state after reset: what a step runs (O1), and that the power-on values keep every
invariant (O6). -/

namespace Sys2Proof.Machine

/-! ### The step -/

theorem step_command (c : Instr) (rest : List Instr) (s : State) (h : s.pending = c :: rest) :
    step s = exec c { s with pending := rest } := by
  unfold step
  rw [h]

theorem State.tick_released (s : State) (h : s.resetAsserted = false) :
    s.tick = { s with events := { s.events with time := s.events.time + 1 } } := by
  simp [State.tick, h]

/-- Settles O1: the three cases of the step. -/
theorem stepRunsFrontCommand : Obligations.StepRunsFrontCommand :=
  ⟨step_command, fun a rest s => step_reads a rest s,
    fun s hp hr h => by rw [step_tick s hp hr, s.tick_released h]⟩

/-! ### The state after reset -/

theorem window_reset (n : Fin 16) : State.reset.window n = Window.reset := by
  simp [State.window, State.reset, Vector.get]

theorem stream_reset (i : StreamId) : State.reset.stream i = Stream.reset := by
  simp [State.stream, State.reset, Vector.get]

theorem hold_reset (k : Fin 4) : State.reset.hold k = none := by
  simp [State.hold, State.reset, Vector.get]

/-- No stream of the reset state is in RESYNC, so the search finds nothing. -/
theorem searchOver_reset (l : List StreamId) : State.reset.searchOver l = State.reset := by
  have unserved (i : StreamId) : (State.reset.stream i).served = false := by rw [stream_reset]; rfl
  induction l with
  | nil => rfl
  | cons i rest ih => rw [State.searchOver, unserved i, if_neg Bool.false_ne_true, ih]

theorem settled_reset : State.reset.settled := by
  refine ⟨rfl, ⟨rfl, fun e rest h => nomatch h⟩, ?_⟩
  rw [State.serviceSearch, searchOver_reset, ite_self]

theorem freeList_reset : State.reset.pool.freeList = List.range 512 := by
  delta State.reset Pool.reset
  with_reducible rfl

/-- Settles O6: with no stream open and every queue empty the invariants say nothing beyond the partition, which is that
of the power-on free list. -/
theorem invariantsHoldAtReset : Obligations.InvariantsHoldAtReset := by
  have partitioned : State.reset.poolPartitioned :=
    State.poolPartitioned_reset freeList_reset fun i => by rw [stream_reset]; rfl
  refine ⟨settled_reset, partitioned, ⟨fun _ => rfl, le_refl 0, Nat.zero_le 32⟩,
    ⟨Nat.zero_le 32, Nat.zero_le 32, Nat.zero_le 32⟩, fun j k g h hj => ?_⟩
  rw [hold_reset] at hj
  cases hj

/-! ### Reads with a side effect -/

theorem controlRead_pop (s : State) : s.controlRead 0x340#16 = s.events.popWord := rfl

theorem controlRead_minFree (s : State) :
    s.controlRead 0x301#16 = (BitVec.ofNat 10 s.pool.minFree).setWidth 32 := by
  change putField s.pool.minFree 0 10 = _
  simp [putField]

theorem controlRead_frameErrors (s : State) :
    s.controlRead 0x311#16 = (BitVec.ofNat 16 s.link.frameErrors).setWidth 32 := by
  change putField s.link.frameErrors 0 16 = _
  simp [putField]

/-- The low byte of an event's word is its code, whole. -/
theorem putField_eventCode (c : EventCode) : putField c.code 0 8 = BitVec.ofNat 32 c.code := by
  cases c <;> decide

theorem putField_eventStream (i : StreamId) :
    putField i.val 8 3 ||| putBit true 11 = BitVec.ofNat 32 (256 * i.val + 2048) := by
  revert i
  decide

/-- The pop word of an entry as its three fields (Table 12-9). -/
theorem Event.word_eq (e : Event) :
    e.word = BitVec.ofNat 32 e.code.code |||
      (match e.stream with
        | some i => BitVec.ofNat 32 (256 * i.val + 2048)
        | none => 0#32) ||| (e.detail.setWidth 32 <<< 12) := by
  unfold Event.word
  rw [putField_eventCode]
  cases e.stream with
  | none => rfl
  | some i => simp only [putField_eventStream]

theorem isEmpty_eq_decide {α : Type} [DecidableEq α] (l : List α) : (!l.isEmpty) = decide (l ≠ []) := by
  cases l <;> simp

/-- Settles O58: each of the three reads gives the word standing at the read, and then has its effect. -/
theorem sideEffectReads : Obligations.SideEffectReads := by
  intro s h
  have released := h.1
  refine ⟨fun hnone => ?_, fun e rest hq => ?_, ?_, ?_⟩
  · rw [exec_eventPop s released, spiRead_of _ s h, readEffect_pop, controlRead_pop]
    simp only [EventQueue.popWord, hnone]
    refine next_settle ?_
    simp only [State.popEvent, State.afterRead, State.setSpi, hnone]
  · rw [exec_eventPop s released, spiRead_of _ s h, readEffect_pop, controlRead_pop]
    simp only [EventQueue.popWord, hq, Event.word_eq]
    refine next_settle ?_
    simp only [State.popEvent, State.afterRead, State.setSpi, hq, isEmpty_eq_decide] <;> rfl
  · rw [exec_minimumFreeRead s released, spiRead_of _ s h, readEffect_minFree, controlRead_minFree]
    rfl
  · rw [exec_frameCheckErrorCountRead s released, spiRead_of _ s h, readEffect_frameErrors, controlRead_frameErrors]
    rfl

end Sys2Proof.Machine
end


section
/-! PROOFS. The control space: the value of every word's read (O60). -/

namespace Sys2Proof.Machine

/-! ### The regions of the control space (Table 12-4) -/

theorem windowAddress_toNat (n : Fin 16) (o : Fin 4) : (windowAddress n o).toNat = 0x100 + 4 * n.val + o.val := by
  have hn := n.isLt
  have ho := o.isLt
  rw [windowAddress, BitVec.toNat_ofNat, Nat.mod_eq_of_lt (by omega)]

theorem streamAddress_toNat (i : StreamId) (o : Fin 16) :
    (streamAddress i o).toNat = 0x200 + 16 * i.val + o.val := by
  have hi := i.isLt
  have ho := o.isLt
  rw [streamAddress, BitVec.toNat_ofNat, Nat.mod_eq_of_lt (by omega)]

/-- A window word's place in the Window Table's region names its entry and its offset. -/
theorem window_of_address (n : Fin 16) (o : Fin 4) :
    Fin.ofNat 16 ((0x100 + 4 * n.val + o.val - 0x100) / 4) = n ∧ (0x100 + 4 * n.val + o.val - 0x100) % 4 = o.val := by
  have hn := n.isLt
  have ho := o.isLt
  refine ⟨Fin.ext ?_, by omega⟩
  simp only [Fin.val_ofNat]
  omega

theorem stream_of_address (i : StreamId) (o : Fin 16) :
    Fin.ofNat 8 ((0x200 + 16 * i.val + o.val - 0x200) / 16) = i ∧
      (0x200 + 16 * i.val + o.val - 0x200) % 16 = o.val := by
  have hi := i.isLt
  have ho := o.isLt
  refine ⟨Fin.ext ?_, by omega⟩
  simp only [Fin.val_ofNat]
  omega

theorem controlRead_window (s : State) (n : Fin 16) (o : Fin 4) :
    s.controlRead (windowAddress n o) = (s.window n).read o.val := by
  have hn := n.isLt
  have ho := o.isLt
  obtain ⟨entry, offset⟩ := window_of_address n o
  simp only [State.controlRead, windowAddress_toNat]
  rw [if_neg (by omega), if_neg (by omega), if_pos (by omega), entry, offset]

theorem controlRead_stream (s : State) (i : StreamId) (o : Fin 16) :
    s.controlRead (streamAddress i o) = (s.stream i).read o.val := by
  have hi := i.isLt
  have ho := o.isLt
  obtain ⟨entry, offset⟩ := stream_of_address i o
  simp only [State.controlRead, streamAddress_toNat]
  rw [if_neg (by omega), if_neg (by omega), if_neg (by omega), if_pos (by omega), entry, offset]

theorem controlRead_usage (s : State) (i : StreamId) :
    s.controlRead (BitVec.ofNat 16 (0x302 + i.val)) = putField (s.stream i).sendList.length 0 10 := by
  have hi := i.isLt
  have address : (BitVec.ofNat 16 (0x302 + i.val)).toNat = 0x302 + i.val := by
    rw [BitVec.toNat_ofNat, Nat.mod_eq_of_lt (by omega)]
  have entry : Fin.ofNat 8 (0x302 + i.val - 0x302) = i := by
    apply Fin.ext
    simp only [Fin.val_ofNat]
    omega
  simp only [State.controlRead, address]
  rw [if_neg (by omega), if_neg (by omega), if_neg (by omega), if_neg (by omega), if_pos (by omega), entry]
  rfl

/-- A word outside every region reads 0 (R158). -/
theorem controlRead_outside (s : State) (a : BitVec 16) (h0 : a ≠ 0#16) (hg : ¬(0x10 ≤ a.toNat ∧ a.toNat ≤ 0x13))
    (hw : ¬(0x100 ≤ a.toNat ∧ a.toNat ≤ 0x13F)) (hs : ¬(0x200 ≤ a.toNat ∧ a.toNat ≤ 0x27F))
    (hp : ¬(0x300 ≤ a.toNat ∧ a.toNat ≤ 0x309)) (hl : ¬(0x310 ≤ a.toNat ∧ a.toNat ≤ 0x313))
    (hj : ¬(0x320 ≤ a.toNat ∧ a.toNat ≤ 0x323)) (hc : a ≠ 0x330#16) (hr : a ≠ 0x331#16)
    (he : ¬(0x340 ≤ a.toNat ∧ a.toNat ≤ 0x342)) : s.controlRead a = 0#32 := by
  have n0 : a.toNat ≠ 0 := fun h => h0 (BitVec.eq_of_toNat_eq h)
  have nc : a.toNat ≠ 0x330 := fun h => hc (BitVec.eq_of_toNat_eq h)
  have nr : a.toNat ≠ 0x331 := fun h => hr (BitVec.eq_of_toNat_eq h)
  simp only [State.controlRead]
  rw [if_neg n0, if_neg hg, if_neg hw, if_neg hs, if_neg (by omega)]
  unfold State.readStatus
  split <;> first | omega | rfl

/-! ### Bits of the words -/

theorem linkEnabled_eq (s : State) : s.linkEnabled = decide (s.link.state ≠ .off) := by
  simp [State.linkEnabled, bne, BEq.beq]

theorem Direction.bit_eq (d : Direction) : d.bit = decide (d = .receive) := by
  cases d <;> rfl

theorem Policy.bit_eq (p : Policy) : p.bit = decide (p = .stall) := by
  cases p <;> rfl

theorem readOut_bit (r : ReadOut) : (r != .none) = decide (r ≠ .none) := by
  cases r <;> rfl

/-- The words from +13 on are not in the map. -/
theorem Stream.read_rest (st : Stream) (o : Nat) (h : 13 ≤ o) : st.read o = 0#32 := by
  unfold Stream.read
  split <;> first | omega | rfl

/-- A read without a side effect only moves the SPI port. -/
theorem readControlWord_plain (a : BitVec 16) (s : State) (h : s.portOpen) (h0 : a ≠ 0x340#16) (h1 : a ≠ 0x301#16)
    (h2 : a ≠ 0x311#16) : readControlWord a s = .next (settle (s.afterRead a (s.controlRead a))) := by
  rw [readControlWord_of a s h.1, spiRead_of a s h, readEffect_none a _ h0 h1 h2]

/-- Settles O60: word by word, each region by its own read. -/
theorem controlSpaceReads : Obligations.ControlSpaceReads := by
  refine ⟨readControlWord_plain, fun s => ⟨rfl, rfl, rfl⟩, fun s => ?_⟩
  dsimp only
  refine ⟨⟨rfl, ?_, rfl, rfl, rfl⟩, fun n => ?_, fun i => ?_,
    ⟨rfl, rfl, rfl, rfl, rfl, rfl, ?_, rfl, rfl, rfl, rfl, rfl, fun hnone => ?_, rfl, rfl⟩,
    fun a => controlRead_outside s a⟩
  · rw [← linkEnabled_eq]
    rfl
  · exact ⟨controlRead_window s n 0, controlRead_window s n 1, controlRead_window s n 2, controlRead_window s n 3⟩
  · refine ⟨?_, controlRead_stream s i 1, controlRead_stream s i 2, controlRead_stream s i 3, controlRead_stream s i 4,
      controlRead_stream s i 5, controlRead_stream s i 6, controlRead_stream s i 7, controlRead_stream s i 8,
      controlRead_stream s i 9, ?_, controlRead_stream s i 11, controlRead_stream s i 12, fun o ho => ?_,
      controlRead_usage s i⟩
    · rw [← Direction.bit_eq, ← Policy.bit_eq]
      exact controlRead_stream s i 0
    · rw [controlRead_stream s i 10]
      change copyPosWord (s.stream i).copyPos = _
      cases (s.stream i).copyPos <;> rfl
    · rw [controlRead_stream, Stream.read_rest _ _ ho]
  · rw [← readOut_bit]
    rfl
  · rw [controlRead_pop, EventQueue.popWord, hnone]

end Sys2Proof.Machine
end


section
/-! PROOFS. The writes of the control space: windows (O54), streams (O55), the global words (O56), any word (O57), and
what the SPI port keeps of them (O59). -/

namespace Sys2Proof.Machine

/-! ### Putting an event -/

theorem State.put_eq (s : State) (c : EventCode) (x : Option StreamId) (d : BitVec 20) :
    s.put c x d = { s with events := (s.put c x d).events } := by
  unfold State.put
  split <;> rfl

/-- What an event's putting leaves in the queue depends on the queue alone. -/
theorem State.put_events_congr {s t : State} (h : t.events = s.events) (c : EventCode) (x : Option StreamId)
    (d : BitVec 20) : (t.put c x d).events = (s.put c x d).events := by
  unfold State.put
  rw [h]
  split <;> rfl

/-! ### Writes of a word -/

/-- A write that its owner accepts. -/
theorem spiWrite_accepted (a : BitVec 16) (write : State → Option State) (s t : State) (h : s.writable)
    (hw : write (s.afterWord a) = some t) : s.spiWrite a write = t := by
  rw [spiWrite_of a write s h, hw]

/-- A write that its owner refuses. -/
theorem spiWrite_refused (a : BitVec 16) (write : State → Option State) (s : State) (h : s.writable)
    (hw : write (s.afterWord a) = none) : s.spiWrite a write = s.afterRefusal a := by
  rw [spiWrite_of a write s h, hw]

/-! ### The Window Table -/

/-- The checks on enabling a window, as R7 lists them (Table 1-4). -/
theorem Window.enableChecks_iff (w : Window) (c : StreamConfig) :
    w.enableChecks c = true ↔ w.base.toNat % (64 * 2 ^ w.sizeCode) = 0 ∧
      (w.kind = .pass ∨
        ((w.kind = .mirror ∨ w.kind = .gated) ∧ c.direction = .send ∧ c.extentBase.toNat ≤ w.base.toNat ∧
          w.base.toNat + 64 * 2 ^ w.sizeCode ≤ c.extentBase.toNat + 4096 * 2 ^ c.sizeCode) ∨
        (w.kind = .guarded ∧ c.direction = .receive ∧ c.extentBase.toNat ≤ w.base.toNat ∧
          w.base.toNat + 64 * 2 ^ w.sizeCode ≤ c.extentBase.toNat + 4096 * 2 ^ c.sizeCode)) := by
  unfold Window.enableChecks StreamConfig.contains Window.bytes StreamConfig.bytes
  cases w.kind <;>
    simp only [Bool.and_eq_true, beq_iff_eq, decide_eq_true_iff, reduceCtorEq, true_and, false_and, or_true,
      false_or, or_false]

/-- Whether an entry may be written, as R7 and R8 say it. -/
theorem State.checkWindow_iff (s : State) (old new : Window) :
    s.checkWindow old new = true ↔
      (old.enable = false ∧ new.sizeCode ≤ 28 ∧
        (new.enable = true → new.enableChecks (s.stream new.stream).cfg = true)) ∨
      (old.enable = true ∧ new.kind = old.kind ∧ new.base = old.base ∧ new.sizeCode = old.sizeCode ∧
        new.stream = old.stream) := by
  cases he : old.enable
  · cases hn : new.enable <;> simp [State.checkWindow, he, hn]
  · simp only [State.checkWindow, he, Window.sameFields, if_true, Bool.and_eq_true, beq_iff_eq, and_assoc,
      reduceCtorEq, false_and, false_or, true_and, @eq_comm _ new.kind, @eq_comm _ new.base, @eq_comm _ new.sizeCode,
      @eq_comm _ new.stream]

/-- A window word that gives a new entry is taken where the check holds, and otherwise refused. -/
theorem exec_windowEntryWrite_checked (n : Fin 16) (o : Fin 4) (w : Word32) (s : State) (new : Window) (h : s.writable)
    (hw : ∀ t : State, t.window n = s.window n →
      t.writeWindow n o.val w = if t.checkWindow (s.window n) new then some (t.setWindow n new) else none) :
    (s.checkWindow (s.window n) new = true → exec (.windowEntryWrite n o w) s =
      .next (settle ((s.afterWord (windowAddress n o)).setWindow n new))) ∧
    (¬ s.checkWindow (s.window n) new = true → exec (.windowEntryWrite n o w) s =
      .next (settle (s.afterRefusal (windowAddress n o)))) := by
  have written := hw (s.afterWord (windowAddress n o)) rfl
  have check : (s.afterWord (windowAddress n o)).checkWindow (s.window n) new = s.checkWindow (s.window n) new := rfl
  rw [check] at written
  rw [exec_windowEntryWrite n o w s h.1.1]
  refine ⟨fun ok => next_settle ?_, fun bad => next_settle ?_⟩
  · exact spiWrite_accepted _ _ s _ h (by rw [written, if_pos ok])
  · exact spiWrite_refused _ _ s h (by rw [written, if_neg bad])

/-- Settles O54: words +0 to +2 are checked as the entry they would leave, word +3 is read-only. -/
theorem windowWrites : Obligations.WindowWrites := by
  intro n o w s h
  have decided (new : Window) := (s.checkWindow_iff (s.window n) new).trans (by rw [Window.enableChecks_iff])
  match o with
  | 0 =>
    have H := exec_windowEntryWrite_checked n 0 w s ((s.window n).withControl w) h fun t ht => by rw [← ht]; rfl
    exact ⟨fun ok => H.1 ((decided _).mpr ok.2), fun bad => H.2 fun c => bad ⟨by decide, (decided _).mp c⟩, rfl⟩
  | 1 =>
    have H := exec_windowEntryWrite_checked n 1 w s ((s.window n).withBaseLow w) h fun t ht => by rw [← ht]; rfl
    exact ⟨fun ok => H.1 ((decided _).mpr ok.2), fun bad => H.2 fun c => bad ⟨by decide, (decided _).mp c⟩, rfl⟩
  | 2 =>
    have H := exec_windowEntryWrite_checked n 2 w s ((s.window n).withBaseHigh w) h fun t ht => by rw [← ht]; rfl
    exact ⟨fun ok => H.1 ((decided _).mpr ok.2), fun bad => H.2 fun c => bad ⟨by decide, (decided _).mp c⟩, rfl⟩
  | 3 =>
    refine ⟨fun ok => absurd rfl ok.1, fun _ => ?_, rfl⟩
    rw [exec_windowEntryWrite n 3 w s h.1.1]
    exact next_settle (spiWrite_refused _ _ s h rfl)

/-! ### The Stream Table -/

theorem sum_others {α : Type} [DecidableEq α] (l : List α) (i : α) (f : α → Nat) :
    (l.map (fun t => if t = i then 0 else f t)).sum = ((l.filter (fun t => t != i)).map f).sum := by
  induction l with
  | nil => rfl
  | cons j rest ih =>
    by_cases hj : j = i
    · simp [hj, ih]
    · simp [hj, ih]

/-- R35: the reserves of the other seven streams. -/
theorem State.otherReserves_eq (s : State) (i : StreamId) :
    s.otherReserves i = ((allStreams.filter (fun t => t != i)).map (fun t => (s.stream t).cfg.reserve)).sum :=
  sum_others allStreams i fun t => (s.stream t).cfg.reserve

section StreamWord

variable {i : StreamId} {o : Fin 16} {w : Word32} {s : State}

/-- A stream word is accepted in OFF, unnamed, with a configuration that passes its checks. -/
theorem exec_streamConfigWrite_set (h : s.writable) (hopen : (s.stream i).state = .off ∧ s.named i = false)
    {c : StreamConfig} (hc : s.newConfig i o.val w = some c) :
    exec (.streamConfigWrite i o w) s =
      .next (settle ((s.afterWord (streamAddress i o)).setStream i { s.stream i with cfg := c })) := by
  rw [exec_streamConfigWrite i o w s h.1.1]
  refine next_settle (spiWrite_accepted _ _ s _ h ?_)
  have stands : (s.afterWord (streamAddress i o)).newConfig i o.val w = some c := hc
  have opened : ((s.afterWord (streamAddress i o)).stream i).state = .off ∧
    (s.afterWord (streamAddress i o)).named i = false := hopen
  simp only [State.writeStream, if_pos opened, stands]
  rfl

theorem exec_streamConfigWrite_refused (h : s.writable)
    (hno : ¬((s.stream i).state = .off ∧ s.named i = false) ∨ s.newConfig i o.val w = none) :
    exec (.streamConfigWrite i o w) s = .next (settle (s.afterRefusal (streamAddress i o))) := by
  rw [exec_streamConfigWrite i o w s h.1.1]
  refine next_settle (spiWrite_refused _ _ s h ?_)
  change (if (s.stream i).state = .off ∧ s.named i = false then _ else none) = _
  rcases hno with hno | hno
  · rw [if_neg hno]
  · have refused : (s.afterWord (streamAddress i o)).newConfig i o.val w = none := hno
    rw [refused, ite_self]

/-- The run words from +6 on are read-only. -/
theorem State.newConfig_readOnly (s : State) (i : StreamId) (o : Nat) (w : Word32) (h : 6 ≤ o) :
    s.newConfig i o w = none := by
  match o, h with
  | n + 6, _ => rfl

end StreamWord

/-- Settles O55: outside OFF and from +6 on a word is refused, and each configuration word has its own checks. -/
theorem streamConfigWrites : Obligations.StreamConfigWrites := by
  intro i o w s h
  dsimp only
  refine ⟨fun hno => ?_, fun hopen ho => ⟨fun bad => ?_, fun size dir => ?_⟩, fun hopen ho => ?_, fun hopen ho => ?_,
    fun hopen ho => ⟨fun bad => ?_, fun ok => ?_⟩, fun hopen ho => ⟨fun bad => ?_, fun ok => ?_⟩,
    fun hopen ho => ⟨fun bad => ?_, fun ok ok' => ?_⟩⟩
  · refine exec_streamConfigWrite_refused h (hno.imp id fun ho => s.newConfig_readOnly i o.val w ho)
  · refine exec_streamConfigWrite_refused h (.inr ?_)
    rw [ho]
    refine if_pos (bad.imp id fun ⟨hd, hl⟩ => ⟨hd, List.length_pos_iff.mpr hl⟩)
  · refine exec_streamConfigWrite_set h hopen ?_
    rw [ho]
    refine if_neg ?_
    rintro (big | ⟨hd, hl⟩)
    · exact absurd size (Nat.not_le.mpr big)
    · exact dir.elim hd fun empty => absurd empty (List.length_pos_iff.mp hl)
  · exact exec_streamConfigWrite_set h hopen (by rw [ho]; rfl)
  · exact exec_streamConfigWrite_set h hopen (by rw [ho]; rfl)
  · refine exec_streamConfigWrite_refused h (.inr ?_)
    rw [ho]
    refine if_pos ?_
    rw [State.otherReserves_eq]
    exact bad
  · refine exec_streamConfigWrite_set h hopen ?_
    rw [ho]
    refine if_neg ?_
    rw [State.otherReserves_eq]
    exact ok
  · refine exec_streamConfigWrite_refused h (.inr ?_)
    rw [ho]
    exact if_pos bad
  · refine exec_streamConfigWrite_set h hopen ?_
    rw [ho]
    exact if_neg ok
  · refine exec_streamConfigWrite_refused h (.inr ?_)
    rw [ho]
    exact if_pos bad
  · refine exec_streamConfigWrite_set h hopen ?_
    rw [ho]
    exact if_neg fun bad => bad.elim ok ok'

/-! ### The global words -/

/-- The POOL_LOW monitor at a write of its threshold (R42): one event where it was armed and the count is below, and
armed from then on exactly where the count is not. -/
theorem State.poolThresholdTest_eq (s : State) :
    s.poolThresholdTest = { s with
      events := if s.pool.lowArmed = true ∧ decide (s.freeCount < s.global.poolLowThreshold) = true then
          (s.put .poolLow none (BitVec.ofNat 20 s.freeCount)).events
        else s.events
      pool := { s.pool with lowArmed := !decide (s.freeCount < s.global.poolLowThreshold) } } := by
  unfold State.poolThresholdTest
  by_cases low : s.freeCount < s.global.poolLowThreshold
  · cases armed : s.pool.lowArmed
    · rw [if_neg Bool.false_ne_true, State.poolRearm, if_neg (by omega)]
      simp only [low, decide_true, Bool.not_true, Bool.false_eq_true, false_and, if_false]
      rw [← armed]
    · simp only [low, decide_true, Bool.not_true, and_self, if_true]
      rw [State.put_eq]
  · cases armed : s.pool.lowArmed
    · rw [if_neg Bool.false_ne_true, State.poolRearm, if_pos (by omega)]
      simp [low]
    · simp only [low, decide_false, Bool.not_false, Bool.false_eq_true, and_false, if_false, if_true]
      rw [← armed]

/-- The write of word 0010H under either of its names. -/
theorem spiWrite_threshold (w : Word32) (s : State) (h : s.writable) :
    s.spiWrite 0x10#16 (fun s => s.writeThreshold w) = { s.afterWord 0x10#16 with
      global := { s.global with poolLowThreshold := (w.extractLsb' 0 9).toNat, alertEnable := w.getLsbD 16 }
      events := if s.pool.lowArmed = true ∧ decide (s.freeCount < (w.extractLsb' 0 9).toNat) = true then
          (s.put .poolLow none (BitVec.ofNat 20 s.freeCount)).events else s.events
      pool := { s.pool with lowArmed := !decide (s.freeCount < (w.extractLsb' 0 9).toNat) } } := by
  let v := { s.afterWord 0x10#16 with
    global := { s.global with poolLowThreshold := fieldOf w 0 9, alertEnable := bitOf w 16 } }
  have events (d : BitVec 20) : (v.put .poolLow none d).events = (s.put .poolLow none d).events :=
    State.put_events_congr (s := s) (t := v) rfl _ _ _
  have tested := v.poolThresholdTest_eq
  rw [events] at tested
  rw [spiWrite_accepted _ _ s _ h (writeThreshold_of _ w)]
  exact tested

theorem controlWordWrite_accepted {a : BitVec 16} {w : Word32} {s t : State} (h : s.writable)
    (hw : (s.afterWord a).controlWrite a w = some t) : exec (.controlWordWrite a w) s = .next (settle t) := by
  rw [exec_controlWordWrite a w s h.1.1]
  exact next_settle (spiWrite_accepted _ _ s t h hw)

theorem controlWordWrite_refused {a : BitVec 16} {w : Word32} {s : State} (h : s.writable)
    (hw : (s.afterWord a).controlWrite a w = none) :
    exec (.controlWordWrite a w) s = .next (settle (s.afterRefusal a)) := by
  rw [exec_controlWordWrite a w s h.1.1]
  exact next_settle (spiWrite_refused _ _ s h hw)

/-- Settles O56: word 0010H always, the other three where their fields pass. -/
theorem globalWrites : Obligations.GlobalWrites := by
  intro w s h
  have word := next_settle (spiWrite_threshold w s h)
  refine ⟨(exec_poolLowThresholdWrite w s h.1.1).trans word, (exec_alertEnableWrite w s h.1.1).trans word,
    (exec_controlWordWrite _ w s h.1.1).trans word, ⟨fun bad => ?_, fun ok => ?_⟩, ⟨fun bad => ?_, fun ok => ?_⟩,
    ⟨fun bad => ?_, fun ok => ?_⟩⟩
  · exact controlWordWrite_refused h (if_pos bad)
  · exact controlWordWrite_accepted h (if_neg ok)
  · exact controlWordWrite_refused h (if_pos bad)
  · exact controlWordWrite_accepted h (if_neg ok)
  · exact controlWordWrite_refused h (if_pos bad)
  · exact controlWordWrite_accepted h (if_neg ok)

/-! ### Any word -/

theorem controlWrite_window (s : State) (n : Fin 16) (o : Fin 4) (w : Word32) :
    s.controlWrite (windowAddress n o) w = s.writeWindow n o.val w := by
  have hn := n.isLt
  have ho := o.isLt
  obtain ⟨entry, offset⟩ := window_of_address n o
  simp only [State.controlWrite, windowAddress_toNat]
  rw [if_neg (by omega), if_neg (by omega), if_neg (by omega), if_neg (by omega), if_pos (by omega), entry, offset]

theorem controlWrite_stream (s : State) (i : StreamId) (o : Fin 16) (w : Word32) :
    s.controlWrite (streamAddress i o) w = s.writeStream i o.val w := by
  have hi := i.isLt
  have ho := o.isLt
  obtain ⟨entry, offset⟩ := stream_of_address i o
  simp only [State.controlWrite, streamAddress_toNat]
  rw [if_neg (by omega), if_neg (by omega), if_neg (by omega), if_neg (by omega), if_neg (by omega),
    if_pos (by omega), entry, offset]

/-- A word that is in no row of the map is refused (R158). -/
theorem controlWrite_outside (s : State) (a : BitVec 16) (w : Word32) (hg : ¬(0x10 ≤ a.toNat ∧ a.toNat ≤ 0x13))
    (hw : ¬(0x100 ≤ a.toNat ∧ a.toNat ≤ 0x13F)) (hs : ¬(0x200 ≤ a.toNat ∧ a.toNat ≤ 0x27F)) (hc : a ≠ 0x330#16) :
    s.controlWrite a w = none := by
  have nc : a.toNat ≠ 0x330 := fun h => hc (BitVec.eq_of_toNat_eq h)
  simp only [State.controlWrite]
  rw [if_neg (by omega), if_neg (by omega), if_neg (by omega), if_neg (by omega), if_neg hw, if_neg hs, if_neg nc]

/-- The command word, put together again from its four fields. -/
theorem CmdParams.word_fields (w : Word32) (p : CmdParams) (hs : p.stream = Fin.ofNat 8 (w.extractLsb' 8 3).toNat)
    (hn : p.granuleCount = w.extractLsb' 11 11) (hf : p.firstGranule = w.extractLsb' 22 10) :
    CmdParams.word (w.extractLsb' 0 8) p = w := by
  have stream : p.stream.val = (w.extractLsb' 8 3).toNat := by
    rw [hs, Fin.val_ofNat]
    exact Nat.mod_eq_of_lt (BitVec.isLt _)
  unfold CmdParams.word
  rw [stream, hn, hf]
  refine BitVec.eq_of_getLsbD_eq fun k hk => ?_
  simp only [BitVec.getLsbD_or, getLsbD_putField, BitVec.testBit_toNat, BitVec.getLsbD_extractLsb', hk, decide_true,
    Bool.true_and]
  interval_cases k <;> simp

/-- Settles O57: the map of the writes is that of the rows. -/
theorem controlWordWrites : Obligations.ControlWordWrites := by
  intro w s h
  have released := h.1.1
  refine ⟨fun n o => ?_, fun i o => ?_, fun p hs hn hf => ⟨?_, CmdParams.word_fields w p hs hn hf⟩, fun p => rfl,
    fun a hg hw hs hc => controlWordWrite_refused h (controlWrite_outside _ a w hg hw hs hc)⟩
  · simp only [exec_controlWordWrite _ w s released, exec_windowEntryWrite n o w s released, controlWrite_window]
  · simp only [exec_controlWordWrite _ w s released, exec_streamConfigWrite i o w s released, controlWrite_stream]
  · have fields : cmdParams w = p := by
      obtain ⟨stream, count, first⟩ := p
      cases hs; cases hn; cases hf
      rfl
    rw [exec_controlWordWrite _ w s released, exec_unknownCommand _ p s released, ← fields]
    rfl

/-! ### What a write keeps of the Management Port -/

/-- The SPI port and the controller's waiting reads are as they were. -/
def State.portKept (s u : State) : Prop := u.mgmt.spi = s.mgmt.spi ∧ u.mgmt.reads = s.mgmt.reads

theorem State.disableLink_mgmt (s : State) : s.disableLink.mgmt = s.mgmt := by
  simp only [State.disableLink, State.streamsDown_frame, State.put_mgmt]
  split <;> simp

theorem CommandEffect.mgmt {p : CmdParams} {f : State → State} (h : CommandEffect p f) (s : State) :
    (f s).mgmt = s.mgmt := by
  cases h with
  | softReset => simp [State.doSoftReset]
  | opened => simp [State.doOpen]
  | openedClean => simp [State.doOpenClean]
  | reopened => simp [State.doReopen]
  | closed | linkEnabled | linkRetrained => simp
  | reset =>
    dsimp only [State.doReset]
    repeat' split
    all_goals simp
  | listening | auditStarted => rfl
  | linkDisabled =>
    dsimp only [State.doLinkDisable]
    split
    · rfl
    · rfl
    all_goals exact State.disableLink_mgmt s
  | auditAborted => simp [State.abortByCommand]

theorem State.portKept_command (s : State) (code : Byte) (p : CmdParams) (o : CommandOutcome) (f : State → State)
    (h : CommandEffect p f) : s.portKept (s.command code p o f) := by
  have kept := h.mgmt { s with mgmt := { s.mgmt with commandWord := CmdParams.word code p } }
  unfold State.command State.portKept
  dsimp only
  split
  · simp only [State.setResult, kept, and_self]
  all_goals exact ⟨rfl, rfl⟩

theorem State.portKept_takeCommand (s : State) (code : Byte) (p : CmdParams) : s.portKept (s.takeCommand code p) := by
  unfold State.takeCommand
  dsimp only
  split
  · exact s.portKept_command _ _ _ _ .opened
  · exact s.portKept_command _ _ _ _ .openedClean
  · exact s.portKept_command _ _ _ _ .reopened
  · exact s.portKept_command _ _ _ _ .closed
  · exact s.portKept_command _ _ _ _ .reset
  · exact s.portKept_command _ _ _ _ .listening
  · exact s.portKept_command _ _ _ _ .linkEnabled
  · exact s.portKept_command _ _ _ _ .linkDisabled
  · exact s.portKept_command _ _ _ _ .linkRetrained
  · exact s.portKept_command _ _ _ _ .auditStarted
  · exact s.portKept_command _ _ _ _ .auditAborted
  · exact s.portKept_command _ _ _ _ .softReset
  · exact ⟨rfl, rfl⟩

theorem State.portKept_writeWindow {s u : State} {n : Fin 16} {o : Nat} {w : Word32}
    (h : s.writeWindow n o w = some u) : s.portKept u := by
  unfold State.writeWindow at h
  dsimp only at h
  repeat' split at h
  all_goals cases h
  all_goals exact ⟨rfl, rfl⟩

theorem State.portKept_writeStream {s u : State} {i : StreamId} {o : Nat} {w : Word32}
    (h : s.writeStream i o w = some u) : s.portKept u := by
  unfold State.writeStream at h
  repeat' split at h
  all_goals cases h
  exact ⟨rfl, rfl⟩

theorem State.portKept_writeThreshold {s u : State} {w : Word32} (h : s.writeThreshold w = some u) : s.portKept u := by
  cases h
  rw [State.poolThresholdTest_eq]
  exact ⟨rfl, rfl⟩

theorem State.portKept_controlWrite {s u : State} {a : BitVec 16} {w : Word32} (h : s.controlWrite a w = some u) :
    s.portKept u := by
  unfold State.controlWrite State.writeLinkTiming State.writeHoldAudit State.writeAck at h
  dsimp only at h
  split at h
  · exact State.portKept_writeThreshold h
  split at h
  · split at h <;> cases h
    exact ⟨rfl, rfl⟩
  split at h
  · split at h <;> cases h
    exact ⟨rfl, rfl⟩
  split at h
  · split at h <;> cases h
    exact ⟨rfl, rfl⟩
  split at h
  · exact State.portKept_writeWindow h
  split at h
  · exact State.portKept_writeStream h
  split at h
  · cases h
    exact s.portKept_takeCommand _ _
  · cases h

theorem WordWrite.portKept {c : Instr} {write : State → Option State} (h : WordWrite c write) {s u : State}
    (hw : write s = some u) : s.portKept u := by
  cases h with
  | window _ n o w => exact State.portKept_writeWindow hw
  | word _ a w => exact State.portKept_controlWrite hw
  | stream i o w => exact State.portKept_writeStream hw
  | threshold w => exact State.portKept_writeThreshold hw
  | command code p => cases hw; exact s.portKept_takeCommand code p

/-- Every command that writes the control space is a word's write at its address. -/
theorem exec_write (c : Instr) (a : BitVec 16) (s : State) (h : writeAddress c = some a) (hr : s.resetAsserted = false) :
    ∃ write, WordWrite c write ∧ exec c s = .next (settle (s.spiWrite a write)) := by
  cases c with
  | openStream p => cases h; exact ⟨_, .command _ p, exec_openStream p s hr⟩
  | openClean p => cases h; exact ⟨_, .command _ p, exec_openClean p s hr⟩
  | reopen p => cases h; exact ⟨_, .command _ p, exec_reopen p s hr⟩
  | close p => cases h; exact ⟨_, .command _ p, exec_close p s hr⟩
  | resetStream p => cases h; exact ⟨_, .command _ p, exec_resetStream p s hr⟩
  | listen p => cases h; exact ⟨_, .command _ p, exec_listen p s hr⟩
  | linkEnable p => cases h; exact ⟨_, .command _ p, exec_linkEnable p s hr⟩
  | linkDisable p => cases h; exact ⟨_, .command _ p, exec_linkDisable p s hr⟩
  | linkRetrain p => cases h; exact ⟨_, .command _ p, exec_linkRetrain p s hr⟩
  | auditStart p => cases h; exact ⟨_, .command _ p, exec_auditStart p s hr⟩
  | auditAbort p => cases h; exact ⟨_, .command _ p, exec_auditAbort p s hr⟩
  | softReset p => cases h; exact ⟨_, .command _ p, exec_softReset p s hr⟩
  | unknownCommand code p => cases h; exact ⟨_, .command code p, exec_unknownCommand code p s hr⟩
  | windowEntryWrite n o w => cases h; exact ⟨_, .window rfl n o.val w, exec_windowEntryWrite n o w s hr⟩
  | streamConfigWrite i o w => cases h; exact ⟨_, .stream i o.val w, exec_streamConfigWrite i o w s hr⟩
  | poolLowThresholdWrite w => cases h; exact ⟨_, .threshold w, exec_poolLowThresholdWrite w s hr⟩
  | alertEnableWrite w => cases h; exact ⟨_, .threshold w, exec_alertEnableWrite w s hr⟩
  | controlWordWrite a w => cases h; exact ⟨_, .word rfl a w, exec_controlWordWrite a w s hr⟩
  | _ => cases h

/-! ### The SPI port -/

theorem spiWrite_bad (s : State) (a : BitVec 16) (write : State → Option State) (h : s.mgmt.spi.kind = .bad) :
    s.spiWrite a write = s.setSpi s.mgmt.spi.turnedAway := by
  rw [State.spiWrite, if_pos h]

theorem spiRead_bad (s : State) (a : BitVec 16) (h : s.mgmt.spi.kind = .bad) :
    s.spiRead a = s.setSpi s.mgmt.spi.turnedAway := by
  rw [State.spiRead, if_pos h]

theorem SpiPort.continues_eq (p : SpiPort) (k : SpiKind) (a : BitVec 16) :
    p.continues k a = decide (p.kind = k ∧ p.address = a) := by
  rw [Bool.decide_and]
  rfl

theorem SpiPort.lead_eq (p : SpiPort) (k : SpiKind) (a : BitVec 16) :
    p.lead k a = if p.kind = k ∧ p.address = a then [] else [Miso.zero, .status false] := by
  rw [SpiPort.lead, SpiPort.continues_eq]
  simp only [decide_eq_true_eq]

/-- A word's write, whether refused or not, leaves the port as that outcome has it; a refused one leaves no more. -/
theorem spiWrite_port (c : Instr) (s : State) (a : BitVec 16) (write : State → Option State) (hc : WordWrite c write)
    (h : s.portOpen) :
    ∃ refused, (s.spiWrite a write).mgmt.spi = s.mgmt.spi.wrote a refused ∧
      (s.spiWrite a write).mgmt.reads = s.mgmt.reads ∧ (refused = true → s.spiWrite a write = s.afterRefusal a) := by
  unfold State.spiWrite
  rw [if_neg h.2]
  split
  · exact ⟨true, rfl, rfl, fun _ => rfl⟩
  split
  · next u hu =>
    obtain ⟨spi, reads⟩ := hc.portKept hu
    exact ⟨false, spi, reads, fun h => nomatch h⟩
  · exact ⟨true, rfl, rfl, fun _ => rfl⟩

theorem settle_mgmt (s : State) : (settle s).mgmt = s.mgmt := (settle_frame s).2.1

/-- Settles O59: the port's words, from the rules of a transaction (R157). -/
theorem spiPortAndAlert : Obligations.SpiPortAndAlert := by
  refine ⟨fun s h => ⟨exec_spiBadCommandByte s h, exec_csNRising s h, fun bad => ?_⟩, fun s h => ⟨?_, ?_⟩, fun s h => ?_⟩
  · refine ⟨fun c a hc => ?_, ?_, ?_, ?_, fun a => ?_⟩
    · obtain ⟨write, -, e⟩ := exec_write c a s hc h
      rw [e, spiWrite_bad s a write bad]
      rfl
    · rw [exec_eventPop s h, spiRead_bad s _ bad]
      rfl
    · rw [exec_minimumFreeRead s h, spiRead_bad s _ bad]
      rfl
    · rw [exec_frameCheckErrorCountRead s h, spiRead_bad s _ bad]
      rfl
    · rw [readControlWord_of a s h, spiRead_bad s _ bad]
      rfl
  · intro c a hc
    obtain ⟨write, hw, e⟩ := exec_write c a s hc h.1
    obtain ⟨refused, spi, reads, same⟩ := spiWrite_port c s a write hw h
    refine ⟨_, refused, e, ?_, ?_, fun r => by rw [same r]⟩
    · rw [settle_mgmt, reads]
    · rw [settle_mgmt, spi, SpiPort.wrote, SpiPort.standing, SpiPort.continues_eq, SpiPort.lead_eq]
  · intro a v
    dsimp only
    rw [State.afterRead, SpiPort.gave, SpiPort.standing, SpiPort.continues_eq, SpiPort.lead_eq]
    rfl
  · simp [State.alertLow, h]

end Sys2Proof.Machine
end


section
/-! PROOFS. Frames: the bytes of a frame are received as its arrival (O10). Each field is written most significant byte
first and read back from its offset. -/

namespace Sys2Proof.Machine

/-! ### Fields read back -/

theorem be16_joined (v : BitVec 16) : v.extractLsb' 8 8 ++ v.extractLsb' 0 8 = v := by
  ext k hk
  simp only [BitVec.getElem_append, BitVec.getElem_extractLsb']
  split
  · simp [BitVec.getLsbD_eq_getElem hk]
  · rw [show 8 + (k - 8) = k by omega, BitVec.getLsbD_eq_getElem hk]

theorem be24_joined (v : BitVec 24) : v.extractLsb' 16 8 ++ (v.extractLsb' 8 8 ++ v.extractLsb' 0 8) = v := by
  ext k hk
  simp only [BitVec.getElem_append, BitVec.getElem_extractLsb']
  split
  · split
    · simp [BitVec.getLsbD_eq_getElem hk]
    · rw [show 8 + (k - 8) = k by omega, BitVec.getLsbD_eq_getElem hk]
  · rw [show 16 + (k - 16) = k by omega, BitVec.getLsbD_eq_getElem hk]

theorem be32_joined (v : BitVec 32) :
    (v.extractLsb' 24 8 ++ v.extractLsb' 16 8) ++ (v.extractLsb' 8 8 ++ v.extractLsb' 0 8) = v := by
  ext k hk
  simp only [BitVec.getElem_append, BitVec.getElem_extractLsb']
  split
  · split
    · simp [BitVec.getLsbD_eq_getElem hk]
    · rw [show 8 + (k - 8) = k by omega, BitVec.getLsbD_eq_getElem hk]
  · split
    · rw [show 16 + (k - 16) = k by omega, BitVec.getLsbD_eq_getElem hk]
    · rw [show 24 + (k - 16 - 8) = k by omega, BitVec.getLsbD_eq_getElem hk]

theorem be64_joined (v : BitVec 64) : v.extractLsb' 32 32 ++ v.extractLsb' 0 32 = v := by
  ext k hk
  simp only [BitVec.getElem_append, BitVec.getElem_extractLsb']
  split
  · simp [BitVec.getLsbD_eq_getElem hk]
  · rw [show 32 + (k - 32) = k by omega, BitVec.getLsbD_eq_getElem hk]

theorem setWidth_back {n m : Nat} (h : n ≤ m) (v : BitVec n) : (v.setWidth m).setWidth n = v := by
  rw [BitVec.setWidth_setWidth_of_le v h, BitVec.setWidth_eq]

theorem targetOf_streamsByte (t o : StreamId) : targetOf (streamsByte t o) = t := by
  revert t o
  decide

theorem originOf_streamsByte (t o : StreamId) : originOf (streamsByte t o) = o := by
  revert t o
  decide

theorem senderUp_flagsByte (a b : Bool) : (flagsByte a b).getLsbD 0 = a := by
  cases a <;> cases b <;> rfl

theorem heard_flagsByte (a b : Bool) : (flagsByte a b).getLsbD 1 = b := by
  cases a <;> cases b <;> rfl

/-! ### Bytes at an offset -/

theorem at8_append (front back : List Byte) (n : Nat) (h : n < front.length) : at8 (front ++ back) n = at8 front n := by
  rw [at8, at8, List.getD_append _ _ _ _ h]

theorem at8_append_right (front back : List Byte) (k : Nat) : at8 (front ++ back) (front.length + k) = at8 back k := by
  rw [at8, at8, List.getD_append_right _ _ _ _ (Nat.le_add_right _ _), Nat.add_sub_cancel_left]

theorem at32_append_be32 (front : List Byte) (v : BitVec 32) : at32 (front ++ be32 v) front.length = v := by
  have byte (k : Nat) : at8 (front ++ be32 v) (front.length + k) = at8 (be32 v) k := at8_append_right front _ k
  have first : at8 (front ++ be32 v) front.length = at8 (be32 v) 0 := byte 0
  unfold at32 at16
  rw [first, byte 1, byte 2, Nat.add_assoc, byte 3]
  exact be32_joined v

/-- The frame check of a body with its own CRC-32 passes (R74). -/
theorem frameChecks_of_crc (body : List Byte) : frameChecks (body ++ be32 (crc32 body)) = true := by
  have check : (body ++ be32 (crc32 body)).length - 4 = body.length := by simp [be32]
  unfold frameChecks
  rw [check, at32_append_be32, List.take_left, beq_self_eq_true]

/-- Sixty-four bytes read one by one make the line again. -/
theorem lineBytes_of_bytes (d : LineBytes) (f : Nat → Byte) (h : ∀ k, k < 64 → f k = d.toList.getD k 0#8) :
    lineBytes f = d := by
  refine Vector.ext fun k hk => ?_
  have byte : d.toList.getD k 0#8 = d[k] := by simp [hk]
  rw [← byte, ← h k hk]
  simp [lineBytes]

/-! ### A frame of each kind -/

theorem frameLength_bytes (f : Frame) : frameLength f.kindCode = some f.bytes.length := by
  cases f <;> simp [Frame.bytes, Frame.body, Frame.payload, frameLength, Frame.kindCode, be16, be24, be32, be64]

theorem at8_zero_bytes (f : Frame) : at8 f.bytes 0 = f.kindCode := rfl

/-- The 64 data bytes of a REC frame stand from offset 18 on. -/
theorem data_of_record (f : RecFrame) : lineBytes (fun k => at8 (Frame.record f).bytes (18 + k)) = f.data := by
  let front := (Frame.record f).kindCode :: f.number ::
    ([streamsByte f.target f.origin, f.session] ++ be16 f.seq ++ [f.kind] ++ be24 (f.line.setWidth 24) ++ be64 f.mask)
  have split : (Frame.record f).bytes = front ++ f.data.toList ++ be32 (crc32 (Frame.record f).body) := rfl
  refine lineBytes_of_bytes _ _ fun k hk => ?_
  have inside : 18 + k < (front ++ f.data.toList).length := by
    rw [List.length_append, Vector.length_toList]
    exact Nat.add_lt_add_left hk 18
  rw [split, at8_append _ _ _ inside]
  exact at8_append_right front f.data.toList k

/-- The fields that an OPENED, CLOSE or CLOSED frame carries, read from its bytes. -/
theorem handshakeFields_eq (f : HandshakeFrame) (kind : Byte) (rest : List Byte) :
    handshakeFields (kind :: f.number :: streamsByte f.target f.origin :: f.session :: rest) = f := by
  change HandshakeFrame.mk _ (targetOf (streamsByte f.target f.origin)) (originOf (streamsByte f.target f.origin)) _ = f
  rw [targetOf_streamsByte, originOf_streamsByte]
  rfl

/-- The fields read from a frame's bytes are the frame (Table 12-2). -/
theorem frameFields_bytes (f : Frame) : frameFields f.bytes = some f := by
  cases f with
  | hello f =>
    change some (Frame.hello { number := f.number, senderUp := (flagsByte f.senderUp f.heard).getLsbD 0,
                               heard := (flagsByte f.senderUp f.heard).getLsbD 1, count := f.count,
                               identity := (f.identity.extractLsb' 24 8 ++ f.identity.extractLsb' 16 8) ++
                                 (f.identity.extractLsb' 8 8 ++ f.identity.extractLsb' 0 8) }) = _
    rw [senderUp_flagsByte, heard_flagsByte, be32_joined]
  | record f =>
    let line := f.line.setWidth 24
    let high := f.mask.extractLsb' 32 32
    let low := f.mask.extractLsb' 0 32
    change some (Frame.record {
      number := f.number, target := targetOf (streamsByte f.target f.origin),
      origin := originOf (streamsByte f.target f.origin), session := f.session
      seq := f.seq.extractLsb' 8 8 ++ f.seq.extractLsb' 0 8, kind := f.kind
      line := (line.extractLsb' 16 8 ++ (line.extractLsb' 8 8 ++ line.extractLsb' 0 8)).setWidth 20
      mask := ((high.extractLsb' 24 8 ++ high.extractLsb' 16 8) ++ (high.extractLsb' 8 8 ++ high.extractLsb' 0 8)) ++
        ((low.extractLsb' 24 8 ++ low.extractLsb' 16 8) ++ (low.extractLsb' 8 8 ++ low.extractLsb' 0 8))
      data := lineBytes (fun k => at8 (Frame.record f).bytes (18 + k)) }) = _
    rw [targetOf_streamsByte, originOf_streamsByte, be16_joined, be24_joined, setWidth_back (by omega), be32_joined,
      be32_joined, be64_joined, data_of_record]
  | ack f =>
    change some (Frame.ack { number := f.number, target := targetOf (streamsByte f.target f.origin),
                             origin := originOf (streamsByte f.target f.origin), session := f.session,
                             seq := f.seq.extractLsb' 8 8 ++ f.seq.extractLsb' 0 8, credit := f.credit }) = _
    rw [targetOf_streamsByte, originOf_streamsByte, be16_joined]
  | nak f =>
    change some (Frame.nak { number := f.number, target := targetOf (streamsByte f.target f.origin),
                             origin := originOf (streamsByte f.target f.origin), session := f.session, kind := f.kind,
                             value := f.value.extractLsb' 8 8 ++ f.value.extractLsb' 0 8, credit := f.credit }) = _
    rw [targetOf_streamsByte, originOf_streamsByte, be16_joined]
  | openStream f =>
    change some (Frame.openStream { number := f.number, target := targetOf (streamsByte f.target f.origin),
                                    origin := originOf (streamsByte f.target f.origin), session := f.session,
                                    sizeCode := f.sizeCode }) = _
    rw [targetOf_streamsByte, originOf_streamsByte]
  | opened f => exact congrArg (some ∘ Frame.opened) (handshakeFields_eq f _ _)
  | refuse f =>
    change some (Frame.refuse { number := f.number, target := targetOf (streamsByte f.target f.origin),
                                origin := originOf (streamsByte f.target f.origin), session := f.session,
                                reason := f.reason }) = _
    rw [targetOf_streamsByte, originOf_streamsByte]
  | close f => exact congrArg (some ∘ Frame.close) (handshakeFields_eq f _ _)
  | closed f => exact congrArg (some ∘ Frame.closed) (handshakeFields_eq f _ _)
  | dgq f =>
    let first := f.firstLine.setWidth 24
    let count := f.lineCount.setWidth 24
    change some (Frame.dgq {
      number := f.number, target := targetOf (streamsByte f.target f.origin),
      origin := originOf (streamsByte f.target f.origin), session := f.session, tag := f.tag,
      firstLine := (first.extractLsb' 16 8 ++ (first.extractLsb' 8 8 ++ first.extractLsb' 0 8)).setWidth 20
      lineCount := (count.extractLsb' 16 8 ++ (count.extractLsb' 8 8 ++ count.extractLsb' 0 8)).setWidth 21
      mark := f.mark.extractLsb' 8 8 ++ f.mark.extractLsb' 0 8 }) = _
    rw [targetOf_streamsByte, originOf_streamsByte, be16_joined, be24_joined, be24_joined,
      setWidth_back (by omega), setWidth_back (by omega)]
  | dgr f =>
    change some (Frame.dgr { number := f.number, target := targetOf (streamsByte f.target f.origin),
                             origin := originOf (streamsByte f.target f.origin), tag := f.tag, status := f.status,
                             reason := f.reason,
                             digest := (f.digest.extractLsb' 24 8 ++ f.digest.extractLsb' 16 8) ++
                               (f.digest.extractLsb' 8 8 ++ f.digest.extractLsb' 0 8) }) = _
    rw [targetOf_streamsByte, originOf_streamsByte, be32_joined]

/-- Settles O10: the length and the check of a transmitted frame are those of its kind, and its fields come back. -/
theorem frameBytesReceived : Obligations.FrameBytesReceived := by
  intro f
  unfold receive
  have checks : frameChecks f.bytes = true := frameChecks_of_crc f.body
  simp only [at8_zero_bytes, frameLength_bytes, checks, frameFields_bytes, ne_eq, not_true_eq_false, Bool.true_eq_false,
    or_self, if_false]

end Sys2Proof.Machine
end


section
/-! PROOFS. The link transmit arbiter: the frame that each grant sends, and what it changes (O32 to O35). -/

namespace Sys2Proof.Machine

/-! ### The grant by link state -/

theorem transmitGrant_training (s : State) (h : s.live) (hs : s.link.state = .training)
    (hq : s.link.helloRequest = true) : s.transmitGrant = s.grantTrainingHello := by
  simp [State.transmitGrant, h.2, hs, hq]

theorem transmitGrant_upHello (s : State) (h : s.live) (hs : s.link.state = .up) (hq : s.link.helloRequest = true) :
    s.transmitGrant = s.grantUpHello := by
  simp [State.transmitGrant, h.2, hs, hq]

theorem transmitGrant_classes (s : State) (h : s.grantsClasses) : s.transmitGrant = s.grantConfirmed := by
  obtain ⟨hlive, hs, hq, hc⟩ := h
  simp [State.transmitGrant, hlive.2, hs, hq, hc]

/-- Nothing is granted in OFF and DOWN, in TRAINING without a HELLO requested, and in UP before confirmed. -/
theorem transmitGrant_none (s : State)
    (h : s.link.state = .off ∨ s.link.state = .down ∨ (s.link.state = .training ∧ s.link.helloRequest = false) ∨
      (s.link.state = .up ∧ s.link.helloRequest = false ∧ s.link.confirmed = false)) : s.transmitGrant = s := by
  unfold State.transmitGrant
  rcases h with hs | hs | ⟨hs, hq⟩ | ⟨hs, hq, hc⟩
  · simp [hs]
  · simp [hs]
  · simp [hs, hq]
  · simp [hs, hq, hc]

/-- Settles O32: the HELLO of TRAINING, the HELLO of UP, or nothing. -/
theorem helloGranted : Obligations.HelloGranted := by
  intro s h
  rw [exec_transmitGrant s h.1]
  refine ⟨fun hs hq => ?_, fun hs hq => ?_, fun hnone => ?_⟩
  · rw [transmitGrant_training s h hs hq]
    rfl
  · rw [transmitGrant_upHello s h hs hq]
    rfl
  · rw [transmitGrant_none s hnone]

/-! ### The grant by class -/

theorem grantConfirmed_class2 (s : State) (q : AckNakReq) (rest : List AckNakReq) (h : s.link.class2 = q :: rest) :
    s.grantConfirmed = { s with link := { s.link with class2 := rest } }.grant2 q := by
  rw [State.grantConfirmed, h]

theorem grantConfirmed_class3 (s : State) (q : HandshakeReq) (rest : List HandshakeReq) (h2 : s.link.class2 = [])
    (h : s.link.class3 = q :: rest) :
    s.grantConfirmed = { s with link := { s.link with class3 := rest } }.grant3 q := by
  rw [State.grantConfirmed, h2, h]

theorem grantConfirmed_class4 (s : State) (q : AuditReq) (rest : List AuditReq) (h2 : s.link.class2 = [])
    (h3 : s.link.class3 = []) (h : s.link.class4 = q :: rest) :
    s.grantConfirmed = { s with link := { s.link with class4 := rest } }.grant4 q := by
  rw [State.grantConfirmed, h2, h3, h]

theorem grantConfirmed_class5 (s : State) (h2 : s.link.class2 = []) (h3 : s.link.class3 = [])
    (h4 : s.link.class4 = []) : s.grantConfirmed = s.grant5 := by
  rw [State.grantConfirmed, h2, h3, h4]

theorem exec_transmitGrant_classes (s : State) (h : s.grantsClasses) :
    exec .transmitGrant s = .next (settle s.grantConfirmed) := by
  rw [exec_transmitGrant s h.1.1, transmitGrant_classes s h]

theorem grant2_nak (s : State) (i : StreamId) (n : NakSlot) (h : (s.stream i).nakSlot = some n) :
    s.grant2 (.nak i) = s.grantNak i n := by
  rw [State.grant2, h]

/-- Settles O33: the head of class 2, an ACK or the NAK of its stream's slot. -/
theorem ackNakGranted : Obligations.AckNakGranted := by
  intro i rest s h
  rw [exec_transmitGrant_classes s h]
  refine ⟨fun hq => ?_, fun n hq hn => ?_⟩
  · rw [grantConfirmed_class2 s _ rest hq]
    rfl
  · refine ⟨n.body.kindCode, n.body.value, ?_, fun e he => ?_, fun r hr => ?_⟩
    · let v := { s with link := { s.link with class2 := rest } }
      exact next_settle ((grantConfirmed_class2 s _ rest hq).trans (grant2_nak v i n hn))
    · rw [he]
      exact ⟨rfl, rfl⟩
    · rw [hr]
      exact ⟨rfl, rfl⟩

theorem grant4_result (s : State) (a : DgrAnswer) (h : s.audit.resultSlot = some a) :
    s.grant4 .dgrResult = { s.sendUp (.dgr (a.frame s.link.txNumber)) with
      audit := { s.audit with resultSlot := none } } := by
  rw [State.grant4, h]
  rfl

theorem grant4_immediate (s : State) (a : DgrAnswer) (h : s.audit.immediateSlot = some a) :
    s.grant4 .dgrImmediate = { s.sendUp (.dgr (a.frame s.link.txNumber)) with
      audit := { s.audit with immediateSlot := none } } := by
  rw [State.grant4, h]
  rfl

/-- Two changes of one stream are one. -/
theorem State.setStream_setStream (s : State) (i : StreamId) (x y : Stream) :
    (s.setStream i x).setStream i y = s.setStream i y := by
  unfold State.setStream
  rw [Vector.set_set]

theorem State.modStream_modStream (s : State) (i : StreamId) (f g : Stream → Stream) :
    (s.modStream i f).modStream i g = s.modStream i (fun st => g (f st)) := by
  rw [State.modStream, State.stream_modStream, State.modStream, State.setStream_setStream, State.modStream]

/-- The grant of a due CLOSE: the frame, the handshake timer and the note of its sending (R52, R59). -/
theorem grant3_close (s : State) (i : StreamId) :
    s.grant3 (.closeDue i) = (s.sendUp (.close { number := s.link.txNumber, target := (s.stream i).cfg.peer, origin := i
                                                 session := (s.stream i).session })).setStream i
      { s.stream i with
        handshakeDue := false, handshakeTimer := s.startTimer ((s.stream i).cfg.ackTimeout * 10), closeSent := true } := by
  dsimp only [State.grant3, State.startHandshake]
  rw [State.modStream_modStream]
  rfl

/-- Settles O34: the head of class 3, or of class 4 where class 3 is empty. -/
theorem handshakeAndAuditGranted : Obligations.HandshakeAndAuditGranted := by
  refine ⟨fun i target ses rest s h h2 => ?_, fun rest s h h2 h3 => ?_⟩
  · rw [exec_transmitGrant_classes s h]
    refine ⟨fun hq => ?_, fun hq => ?_, fun hq => ?_, fun hq => ?_, fun r hq => ?_, fun hq => ?_⟩
    all_goals rw [grantConfirmed_class3 s _ rest h2 hq]
    · rfl
    · exact next_settle (grant3_close { s with link := { s.link with class3 := rest } } i)
    all_goals rfl
  · rw [exec_transmitGrant_classes s h]
    refine ⟨fun hq => ?_, fun a hq ha => ?_, fun a hq ha => ?_⟩
    all_goals rw [grantConfirmed_class4 s _ rest h2 h3 hq]
    · rfl
    · exact next_settle (grant4_result { s with link := { s.link with class4 := rest } } a ha)
    · exact next_settle (grant4_immediate { s with link := { s.link with class4 := rest } } a ha)

/-! ### Class 5 -/

theorem Stream.isOldest_iff (st : Stream) (r : Record) :
    st.isOldest r = true ↔ st.sendList.head?.map Record.slot = some r.slot := by
  unfold Stream.isOldest
  cases st.sendList.head? <;> simp

/-- R85: a sending stream is a candidate by the record at its cursor, where that may be taken. -/
theorem Stream.candidate_of (st : Stream) (q : Seq) (r : Record) (hdir : st.cfg.direction = .send)
    (hstate : st.state = .resync ∨ st.state = .active ∨ st.state = .closing) (hq : st.cursor = some q)
    (hr : st.sendList.find? (fun x => x.seq == q && !x.discard) = some r)
    (ht : r.state = .sent ∨ (r.state = .ready ∧ r.deadline = none)) : st.candidate = some r := by
  have sends : st.sends = true := by simp [Stream.sends, hdir, or_assoc, hstate]
  have record : st.cursorRecord = some r := by
    rw [Stream.cursorRecord, hq]
    exact hr
  have takeable : r.takeable = true := by simp [Record.takeable, ht]
  simp only [Stream.candidate, sends, record, takeable, if_true]

theorem grant5_of (s : State) (i : StreamId) (r : Record) (hc : 0 < s.link.credits) (hn : s.nextSender = some i)
    (hr : (s.stream i).candidate = some r) : s.grant5 = s.grantRec i r := by
  rw [State.grant5, if_neg (by omega), hn]
  simp only [hr]

theorem grant5_none (s : State) (h : s.link.credits = 0 ∨ ∀ i, (s.stream i).candidate = none) : s.grant5 = s := by
  rcases h with h | h
  · rw [State.grant5, if_pos h]
  · have nobody : s.nextSender = none := by simp [State.nextSender, h]
    rw [State.grant5, nobody, ite_self]

/-- The taking of a record with its frame (R80, R82, R86). -/
theorem grantRec_eq (s : State) (i : StreamId) (r : Record) :
    s.grantRec i r = State.setStream
      { s.sent (.record { number := s.link.txNumber, target := (s.stream i).cfg.peer, origin := r.stream
                          session := r.session, seq := r.seq, kind := BitVec.ofNat 8 r.kind.code, line := r.line
                          mask := r.payload.mask, data := r.payload.data }) with
        link := { s.link with credits := s.link.credits - 1, recPointer := i, txNumber := s.link.txNumber + 1
                              keepaliveTimer := s.startTimer (s.global.keepalive * 10) } }
      i { s.stream i with
        sendList := (s.stream i).sendList.map (fun x : Record =>
          if x.slot = r.slot then { x with state := .sent } else x)
        sentSeq := if r.state = .ready then r.seq else (s.stream i).sentSeq
        cursor := followingSeq r.seq (s.stream i).sendList
        retransmitTimer := if (s.stream i).sendList.head?.map Record.slot = some r.slot then
            s.startTimer ((s.stream i).cfg.ackTimeout * 10)
          else (s.stream i).retransmitTimer } := by
  simp only [← Stream.isOldest_iff]
  rfl

/-- Settles O35: without a credit or a candidate nothing is granted; else the first candidate after the pointer is. -/
theorem recGranted : Obligations.RecGranted := by
  intro s h h2 h3 h4
  rw [exec_transmitGrant_classes s h, grantConfirmed_class5 s h2 h3 h4]
  refine ⟨fun hnone => by rw [grant5_none s hnone], fun i q r hc hn hdir hstate hq hr ht => next_settle ?_⟩
  rw [grant5_of s i r hc hn ((s.stream i).candidate_of q r hdir hstate hq hr ht)]
  exact grantRec_eq s i r

end Sys2Proof.Machine
end


section
/-! PROOFS. The ends of the audit jobs, hold slots emptied, and the Memory Port: its grants (O25, O26) and the responses
that it routes (O24, O27, O31). -/

namespace Sys2Proof.Machine

/-! ### The ends of the audit jobs -/

theorem ReadOut.orphaned_eq (r : ReadOut) : r.orphaned = if r = .none then .none else .ended := by
  cases r <;> rfl

/-- The end of the initiator job (R144). -/
theorem State.jobEnded_endJob (s : State) (o : AuditOutcome) (r : Reason) (mine theirs : Option Word32) :
    s.jobEnded (s.endJob o r mine theirs) o r mine theirs := by
  let v := { s with audit := { s.audit with
    initiator := { s.audit.initiator with
      state := .idle, timer := none, dgqDue := false, readOut := s.audit.initiator.readOut.orphaned }
    result := { outcome := o, reason := r, tag := s.audit.initiator.tag, stream := s.audit.initiator.stream,
                localDigest := mine, partnerDigest := theirs } } }
  have events := State.put_events_congr (s := s) (t := v) rfl .auditDone (some s.audit.initiator.stream) (auditDetail o r)
  unfold State.jobEnded
  rw [← ReadOut.orphaned_eq]
  change v.put .auditDone (some s.audit.initiator.stream) (auditDetail o r) = _
  rw [State.put_eq, events]
  rfl

theorem State.request4_eq (s : State) (q : AuditReq) :
    s.request4 q = { s with link := { s.link with
      class4 := if q ∈ s.link.class4 then s.link.class4 else s.link.class4 ++ [q] } } := by
  unfold State.request4
  by_cases h : q ∈ s.link.class4
  · rw [if_pos (List.contains_iff_mem.mpr h), if_pos h]
  · rw [if_neg (mt List.contains_iff_mem.mp h), if_neg h]

/-- The end of the responder job, with its answer (R147, R148). -/
theorem State.responderEnded_endResponder (s : State) (st : DgrStatus) (r : Reason) (digest : Word32) :
    s.responderEnded (s.endResponder st r digest) st r digest := by
  unfold State.responderEnded State.endResponder
  rw [State.request4_eq, ReadOut.orphaned_eq]

theorem State.digest_eq (s : State) : s.audit.initiator.digest? = s.localDigest := rfl

/-! ### Hold slots -/

theorem State.emptyHold_eq (s : State) (k : Fin 4) : s.emptyHold k = { s with holds := (s.emptyHold k).holds } := by
  unfold State.emptyHold
  split <;> rfl

theorem State.hold_emptyHold_self (s : State) (k : Fin 4) (h : HeldWrite) (hk : s.hold k = some h) :
    (s.emptyHold k).hold k = none := by
  rw [s.hold_emptyHold k k h hk, if_pos rfl]

/-- The ranks of the taking order behind an emptied slot close up (Table 7-2). -/
theorem State.hold_emptyHold_ne (s : State) (k j : Fin 4) (h : HeldWrite) (hk : s.hold k = some h) (hj : j ≠ k) :
    (s.emptyHold k).hold j =
      (s.hold j).map (fun w => { w with order := if h.order < w.order then w.order - 1 else w.order }) := by
  rw [s.hold_emptyHold k j h hk, if_neg hj]
  refine congrArg (fun f => (s.hold j).map f) (funext fun w => ?_)
  split <;> rfl

theorem State.answerHold_of (s : State) (k : Fin 4) (h : HeldWrite) (hk : s.hold k = some h) :
    s.answerHold k = { s with
      holds := (s.emptyHold k).holds
      sp := { s.sp with responses := s.sp.responses ++ [{ tag := h.tag, status := .error, data := [] }] } } := by
  rw [State.answerHold, hk]
  change (s.emptyHold k).respond h.tag .error [] = _
  rw [State.emptyHold_eq]
  rfl

/-- A held write whose deadline has come (R120). -/
theorem State.holdExpired_of (s : State) (k : Fin 4) (h : HeldWrite) (hk : s.hold k = some h) :
    s.holdExpired k = { s with
      holds := (s.emptyHold k).holds
      sp := { s.sp with responses := s.sp.responses ++ [{ tag := h.tag, status := .error, data := [] }] }
      events := (s.put .gateTimeout (some h.stream) ((s.stream h.stream).cfg.lineIndex h.addr)).events } := by
  rw [State.holdExpired, hk]
  change (s.answerHold k).put .gateTimeout (some h.stream) ((s.stream h.stream).cfg.lineIndex h.addr) = _
  have events := State.put_events_congr (s := s) (t := s.answerHold k) (by rw [s.answerHold_of k h hk])
    .gateTimeout (some h.stream) ((s.stream h.stream).cfg.lineIndex h.addr)
  rw [State.put_eq, events, s.answerHold_of k h hk]

/-- Settles O24: one delivery, and the expiries of a combine deadline and of a hold deadline. -/
theorem responseAndDeadlines : Obligations.ResponseAndDeadlines := by
  refine ⟨fun x rest s h hx => ?_, fun i s h hany => ?_, fun k w s h hk => ?_⟩
  · rw [exec_spResponseDelivery s h, State.deliverResponse, hx]
  · have running : (s.stream i).sendList.any (fun r => r.deadline.isSome) = true := by
      obtain ⟨r, hr, hd⟩ := hany
      exact List.any_eq_true.mpr ⟨r, hr, Option.isSome_iff_ne_none.mpr hd⟩
    rw [exec_combineDeadlineExpiry i s h running]
    rfl
  · refine ⟨s.holdExpired k, exec_holdDeadlineExpiry k s h (by rw [hk]; rfl), ?_⟩
    rw [s.holdExpired_of k w hk]
    exact ⟨s.hold_emptyHold_self k w hk, fun j hj => s.hold_emptyHold_ne k j w hk hj, rfl⟩

/-! ### The sides of the MP arbiter -/

/-- The arbiter grants the through side: it waits, and the internal side does not or was granted last (R151). -/
theorem grantSide_through (s : State) (q : ThroughReq) (rest : List ThroughReq) (hq : s.mp.throughQueue = q :: rest)
    (h : s.mp.lastSide = .internal ∨ s.internalWaits = false) : s.grantSide = some .through := by
  have waits : s.throughWaits = true := by rw [State.throughWaits, hq]; rfl
  unfold State.grantSide
  rw [waits]
  cases hi : s.internalWaits
  · rfl
  · rcases h with h | h
    · simp only [h]
    · rw [hi] at h; cases h

/-- The arbiter grants the internal side: it waits, and the through side does not or was granted last (R151). -/
theorem grantSide_internal (s : State) (h : s.mp.throughQueue = [] ∨ s.mp.lastSide = .through)
    (hi : s.internalWaits = true) : s.grantSide = some .internal := by
  unfold State.grantSide
  rw [hi]
  rcases h with h | h
  · have quiet : s.throughWaits = false := by rw [State.throughWaits, h]; rfl
    rw [quiet]
  · cases s.throughWaits
    · rfl
    · simp only [h]

theorem passCopy_of (s : State) (h : s.copyFailsAtGrant = false) : s.passCopy = s := by
  rw [State.passCopy, h, if_neg Bool.false_ne_true]

theorem mpGrant_through (s : State) (h : s.grantSide = some .through) : s.mpGrant = s.grantThrough := by
  have stands : s.passCopy = s := passCopy_of s (by rw [State.copyFailsAtGrant, h]; rfl)
  simp only [State.mpGrant, stands, h]

theorem mpGrant_internal (s : State) (h : s.grantSide = some .internal) (hc : s.copyFailsAtGrant = false) :
    s.mpGrant = s.grantInternal := by
  simp only [State.mpGrant, passCopy_of s hc, h]

/-! ### The through side -/

/-- What the Resync Engine does at an issue touches its state alone. -/
theorem State.engineRetest_eq (s : State) : s.engineRetest = { s with engine := s.engineRetest.engine } := by
  unfold State.engineRetest
  repeat' split
  all_goals rfl

theorem State.engineRetest_engine_of_not_waiting (s : State) (h : ∀ i, s.engine.state ≠ .waiting i) :
    s.engineRetest = s := by
  unfold State.engineRetest
  split
  · next i hi => exact absurd hi (h i)
  all_goals rfl

theorem State.engineRetest_of_waiting (s : State) (i : StreamId) (h : s.engine.state = .waiting i) :
    s.engineRetest = if s.softReset ∨ s.copyLinePending i then s
      else if s.slotAllowed i then s.setEngine (.requested i (s.stream i).session) else s.setEngine .idle := by
  rw [State.engineRetest, h]

/-- Settles O25: the oldest request leaves the through queue, and the Resync Engine's wait may end with it. -/
theorem throughGrant : Obligations.ThroughGrant := by
  refine ⟨fun q rest s h hq hside => ?_, fun s h hq hi => ?_⟩
  · let v := { s with
      mp := { s.mp with throughQueue := rest, lastSide := .through, outstanding := s.mp.outstanding ++ [q.mpRequest] }
      out := { s.out with mpRequest := some q.mpRequest } }
    have granted : s.grantThrough = v.engineRetest := by rw [State.grantThrough, hq]; rfl
    have frame : v.engineRetest = { v with engine := v.engineRetest.engine } := v.engineRetest_eq
    have pending (i : StreamId) : v.engineRetest.copyLinePending i = v.copyLinePending i := by rw [frame]; rfl
    refine ⟨v.engineRetest, ?_, frame, fun hw => ?_, fun i hsoft hw hp => ?_, fun i hw hp => ?_⟩
    · rw [exec_mpGrant s h, mpGrant_through s (grantSide_through s q rest hq hside), granted]
    · rw [v.engineRetest_engine_of_not_waiting hw]
    · rw [pending] at hp
      rw [v.engineRetest_of_waiting i hw, hp, if_neg (by simp [v, hsoft]), apply_ite State.engine,
        apply_ite (fun x => ({ s.engine with state := x } : ResyncEngine))]
      rfl
    · rw [pending] at hp
      rw [v.engineRetest_of_waiting i hw, hp, if_pos (.inr rfl)]
  · have quiet : s.throughWaits = false := by rw [State.throughWaits, hq]; rfl
    have nothing : s.grantSide = none := by rw [State.grantSide, quiet, hi]
    have stands : s.passCopy = s := passCopy_of s (by rw [State.copyFailsAtGrant, nothing]; rfl)
    rw [exec_mpGrant s h]
    simp only [State.mpGrant, stands, nothing]

/-! ### The internal side -/

/-- The Apply Engine asks for a write: its issue point is neither stale nor VOID, and fewer than 4 are out (R103). -/
theorem applyRequest_of (s : State) (e : ApplyEntry) (he : s.issuePoint = some e) (hs : s.entryStale e = false)
    (hk : e.kind ≠ .void) (hn : s.applyOutstanding < 4) : s.applyRequest = true := by
  simp [State.applyRequest, he, hs, hk, hn]

theorem entryStale_of_bound (s : State) (e : ApplyEntry) (h : e.stale = false)
    (hb : (s.stream e.stream).state = .bound) (hses : (s.stream e.stream).session = e.session) :
    s.entryStale e = false := by
  simp [State.entryStale, h, hb, hses]

/-- The free tag of lowest number among 16 to 19 (R149). -/
theorem freeApplyTag_of (s : State) (t : MpTag) (lo : 16 ≤ t.val) (hi : t.val ≤ 19)
    (free : ∀ m ∈ s.mp.outstanding, m.tag ≠ t)
    (below : ∀ x : MpTag, 16 ≤ x.val → x < t → ∃ m ∈ s.mp.outstanding, m.tag = x) : s.freeApplyTag = some t := by
  have isFree : s.mp.outstanding.all (fun m => m.tag != t) = true := by simpa using free
  have taken (x : MpTag) (h : 16 ≤ x.val) (hx : x < t) : s.mp.outstanding.all (fun m => m.tag != x) = false := by
    obtain ⟨m, hm, rfl⟩ := below x h hx
    exact List.all_eq_false.mpr ⟨m, hm, by simp⟩
  unfold State.freeApplyTag
  have cases : t = 16 ∨ t = 17 ∨ t = 18 ∨ t = 19 := by
    simp only [Fin.ext_iff]
    change t.val = 16 ∨ t.val = 17 ∨ t.val = 18 ∨ t.val = 19
    omega
  rcases cases with rfl | rfl | rfl | rfl
  · simp only [List.find?, isFree]
  · simp only [List.find?, taken 16 (by decide) (by decide), isFree]
  · simp only [List.find?, taken 16 (by decide) (by decide), taken 17 (by decide) (by decide), isFree]
  · simp only [List.find?, taken 16 (by decide) (by decide), taken 17 (by decide) (by decide),
      taken 18 (by decide) (by decide), isFree]

/-- A write into the responder's range while it reads disturbs it (R147). -/
theorem applyDisturbs_eq (s : State) (a : Addr) :
    s.applyDisturbs a = { s with audit := { s.audit with responder := { s.audit.responder with
      disturbed := s.audit.responder.disturbed || (s.audit.responder.state == .reading && s.inResponderRange a) } } } := by
  unfold State.applyDisturbs
  by_cases h : s.audit.responder.state = .reading ∧ s.inResponderRange a = true
  · rw [if_pos h, beq_iff_eq.mpr h.1, h.2, Bool.true_and, Bool.or_true]
  · have quiet : (s.audit.responder.state == .reading && s.inResponderRange a) = false := by
      rw [Bool.eq_false_iff, ne_eq, Bool.and_eq_true, beq_iff_eq]
      exact h
    rw [if_neg h, quiet, Bool.or_false]

theorem grantApply_of (s : State) (e : ApplyEntry) (t : MpTag) (he : s.issuePoint = some e)
    (ht : s.freeApplyTag = some t) :
    s.grantApply = { s with
      apply := { s.apply with queue := issueFirst t s.apply.queue }
      mp := { s.mp with outstanding := s.mp.outstanding ++ [s.applyWrite e t], lastSide := .internal }
      out := { s.out with mpRequest := some (s.applyWrite e t) }
      choices := s.choices + 1
      audit := { s.audit with responder := { s.audit.responder with
        disturbed := s.audit.responder.disturbed ||
          (s.audit.responder.state == .reading && s.inResponderRange (s.applyWrite e t).addr) } } } := by
  simp only [State.grantApply, he, ht, applyDisturbs_eq]
  rfl

theorem internalWaits_of_apply (s : State) (h : s.live) (ha : s.applyRequest = true) : s.internalWaits = true := by
  simp [State.internalWaits, h.2, ha]

theorem internalWaits_of_reader (s : State) (x : Reader) (h : s.live) (hx : s.nextReader = some x) :
    s.internalWaits = true := by
  simp [State.internalWaits, h.2, hx]

/-- The arbiter's choice of a reader, of which no copy read fails (R152). -/
theorem mpGrant_reader (s : State) (x : Reader) (h : s.live) (hside : s.mp.throughQueue = [] ∨ s.mp.lastSide = .through)
    (hx : s.nextReader = some x) (hc : x = .copy → s.copyIssue.isSome = true) :
    s.mpGrant = s.grantInternal := by
  refine mpGrant_internal s (grantSide_internal s hside (internalWaits_of_reader s x h hx)) ?_
  unfold State.copyFailsAtGrant
  rw [hx]
  cases x with
  | copy => simp [hc rfl]
  | initiator => simp
  | responder => simp

theorem copyAddr_of (s : State) (i : StreamId) (p : CopyPos) (hp : (s.stream i).copyPos = some p) :
    (s.stream i).copyAddr = some ((s.stream i).cfg.lineAddr ((s.stream i).cfg.copyLine p)) := by
  rw [Stream.copyAddr, hp]
  rfl

theorem copyIssue_of (s : State) (i : StreamId) (p : CopyPos)
    (he : s.engine.state = .requested i (s.stream i).session) (hp : (s.stream i).copyPos = some p)
    (hs : (s.stream i).state = .resync) :
    s.copyIssue = if s.linePending ((s.stream i).cfg.lineAddr ((s.stream i).cfg.copyLine p)) = false then
        some { stream := i, session := (s.stream i).session, line := BitVec.ofNat 20 ((s.stream i).cfg.copyLine p)
               lineAddr := (s.stream i).cfg.lineAddr ((s.stream i).cfg.copyLine p), spoiled := false }
      else none := by
  have target : (s.stream i).copyTarget = some (BitVec.ofNat 20 ((s.stream i).cfg.copyLine p),
      (s.stream i).cfg.lineAddr ((s.stream i).cfg.copyLine p)) := by rw [Stream.copyTarget, hp]; rfl
  simp only [State.copyIssue, he, target, hs, true_and]

/-- A copy read chosen in vain goes back to wait for its line, and the arbiter chooses again (R153). -/
theorem withdrawCopy_of_pending (s : State) (i : StreamId) (ses : Session) (he : s.engine.state = .requested i ses)
    (hs : (s.stream i).state = .resync) (hp : s.copyLinePending i = true) :
    s.withdrawCopy = s.setEngine (.waiting i) := by
  rw [State.withdrawCopy, he]
  simp only [hs, hp, and_self, if_true]

/-- An engine that waits has no read request, so none can fail. -/
theorem copyFailsAtGrant_of_waiting (s : State) (i : StreamId) (he : s.engine.state = .waiting i) :
    s.copyFailsAtGrant = false := by
  have quiet : s.copyRequest = false := by rw [State.copyRequest, he]
  have other : s.nextReader ≠ some .copy := by
    intro h
    have stands := List.find?_some h
    rw [State.readerStands, quiet] at stands
    cases stands
  simp [State.copyFailsAtGrant, other]

/-- Settles O26: the apply write goes first; among the readers a copy read whose line is still being written waits, and
the others are granted. -/
theorem internalGrants : Obligations.InternalGrants := by
  refine ⟨fun e t s h hside he hstale hb hses hk hn lo hi free below => ?_, fun s h hside ha => ⟨?_, ?_, ?_⟩⟩
  · have stale := entryStale_of_bound s e hstale hb hses
    have asks := applyRequest_of s e he stale hk hn
    have side := grantSide_internal s hside (internalWaits_of_apply s h asks)
    refine ⟨s.grantApply, s.applyWrite e t, ?_, rfl, rfl, rfl, rfl,
      grantApply_of s e t he (freeApplyTag_of s t lo hi free below)⟩
    rw [exec_mpGrant s h.1, mpGrant_internal s side (by simp [State.copyFailsAtGrant, asks]), State.grantInternal,
      if_pos asks]
  · intro i p hx hengine hp hs
    have issue := copyIssue_of s i p hengine hp hs
    refine ⟨fun free => ?_, fun pending => ?_⟩
    · have issue := issue.trans (if_pos free)
      rw [exec_mpGrant s h.1, mpGrant_reader s .copy h hside hx (by rw [issue]; exact fun _ => rfl),
        State.grantInternal, ha, if_neg Bool.false_ne_true, show s.nextReader = _ from hx]
      simp only [issue]
      rfl
    · have waits : s.copyLinePending i = true := by
        rw [State.copyLinePending, copyAddr_of s i p hp]
        exact pending
      have side := grantSide_internal s hside (internalWaits_of_reader s .copy h hx)
      have issue := issue.trans (if_neg (Bool.not_eq_false _ ▸ pending))
      have fails : s.copyFailsAtGrant = true := by
        rw [State.copyFailsAtGrant, side, ha, show s.nextReader = _ from hx, issue]
        rfl
      let w := s.setEngine (.waiting i)
      have passed : s.passCopy = w := by
        rw [State.passCopy, if_pos fails, withdrawCopy_of_pending s i _ hengine hs waits]
      have stays : w.passCopy = w := passCopy_of w (copyFailsAtGrant_of_waiting w i rfl)
      have same : s.mpGrant = w.mpGrant := by simp only [State.mpGrant, passed, stays]
      rw [exec_mpGrant s h.1, same]
      exact (exec_mpGrant w h.1).symm
  · intro hx
    rw [exec_mpGrant s h.1, mpGrant_reader s .initiator h hside hx (fun h => nomatch h),
      State.grantInternal, ha, if_neg Bool.false_ne_true, show s.nextReader = _ from hx]
    rfl
  · intro hx
    rw [exec_mpGrant s h.1, mpGrant_reader s .responder h hside hx (fun h => nomatch h),
      State.grantInternal, ha, if_neg Bool.false_ne_true, show s.nextReader = _ from hx]
    rfl

/-! ### Responses -/

theorem mpResponse_unknown (s : State) (t : MpTag) (st : Status) (d : LineBytes)
    (h : ∀ m ∈ s.mp.outstanding, m.tag ≠ t) : s.mpResponse t st d = s := by
  have unknown : s.outstandingOf t = none := by
    rw [State.outstandingOf, List.find?_eq_none]
    exact fun m hm => by simpa using h m hm
  rw [State.mpResponse, unknown]

theorem mpResponse_of (s : State) (t : MpTag) (st : Status) (d : LineBytes) (m : MpRequest)
    (hm : s.mp.outstanding.find? (fun m => m.tag == t) = some m) :
    s.mpResponse t st d = (s.retireTag t).deliver m st d := by
  have out : s.outstandingOf t = some m := hm
  rw [State.mpResponse, out]

theorem tag_of_find {l : List MpRequest} {t : MpTag} {m : MpRequest} (hm : l.find? (fun m => m.tag == t) = some m) :
    m.tag = t := by
  simpa using List.find?_some hm

theorem deliver_through (s : State) (m : MpRequest) (u : WriteUse) (st : Status) (d : LineBytes)
    (h : m.owner = .through u) :
    s.deliver m st d = (s.respond (Fin.ofNat 16 m.tag.val) st (responseData m.op m.addr st d)).throughUse u st := by
  rw [State.deliver, h]

/-- Settles O27: a response to no one is dropped; a through request's answers its tag, a tracked ERROR with MEM_ERROR. -/
theorem throughResponse : Obligations.ThroughResponse := by
  intro t st d s h
  rw [exec_mpResponse t st d s h]
  refine ⟨fun hnone => by rw [mpResponse_unknown s t st d hnone], fun m hm => ?_⟩
  have tag := tag_of_find hm
  rw [mpResponse_of s t st d m hm]
  refine ⟨fun hplain => ?_, fun i line htracked => ?_⟩
  · rw [deliver_through _ m _ st d hplain, tag]
    rfl
  · rw [deliver_through _ m _ st d htracked, tag]
    cases st with
    | okay => rfl
    | error =>
      let v := (s.retireTag t).respond (Fin.ofNat 16 t.val) .error (responseData m.op m.addr .error d)
      have events := State.put_events_congr (s := s) (t := v) rfl .memError (some i) line
      refine next_settle ?_
      change v.put .memError (some i) line = _
      rw [State.put_eq, events]
      rfl

/-! ### The audit reads -/

theorem deliver_initiator (s : State) (m : MpRequest) (st : Status) (d : LineBytes) (h : m.owner = .initiator) :
    s.deliver m st d = s.initiatorResponse st d := by
  rw [State.deliver, h]

theorem deliver_responder (s : State) (m : MpRequest) (st : Status) (d : LineBytes) (h : m.owner = .responder) :
    s.deliver m st d = s.responderResponse st d := by
  rw [State.deliver, h]

/-- A read of an ended job, or one that completes during a soft reset, only clears its flag (R138). -/
theorem initiatorResponse_dropped (s : State) (st : Status) (d : LineBytes)
    (h : s.softReset = true ∨ s.audit.initiator.readOut ≠ .current) :
    s.initiatorResponse st d = s.setInitiator { s.audit.initiator with readOut := .none } := by
  unfold State.initiatorResponse
  dsimp only
  split
  · rfl
  · next live =>
    split
    · next hr => exact absurd hr (h.resolve_left live)
    all_goals rfl

theorem initiatorResponse_current (s : State) (st : Status) (d : LineBytes) (h : s.softReset = false)
    (hr : s.audit.initiator.readOut = .current) :
    s.initiatorResponse st d = match st with
      | .okay => (s.setInitiator { s.audit.initiator with readOut := .none }).initiatorLine d
      | .error => (s.setInitiator { s.audit.initiator with readOut := .none }).endJob .aborted .memory none none := by
  simp only [State.initiatorResponse, h, hr, Bool.false_eq_true, if_false] <;> rfl

theorem initiatorLine_more (s : State) (d : LineBytes)
    (h : s.audit.initiator.nextLine + 1 < s.audit.initiator.firstLine + s.audit.initiator.lineCount) :
    s.initiatorLine d = s.setInitiator { s.audit.initiator with
      crc := crcLine s.audit.initiator.crc d, nextLine := s.audit.initiator.nextLine + 1 } := by
  rw [State.initiatorLine, if_pos h]

theorem initiatorLine_last (s : State) (d : LineBytes)
    (h : s.audit.initiator.firstLine + s.audit.initiator.lineCount ≤ s.audit.initiator.nextLine + 1) :
    s.initiatorLine d = (s.setInitiator { s.audit.initiator with
      crc := crcLine s.audit.initiator.crc d, nextLine := s.audit.initiator.nextLine + 1 }).readingEnds := by
  rw [State.initiatorLine, if_neg (by omega)]

theorem readingEnds_disturbed (s : State) (h : s.audit.initiator.disturbed = true) :
    s.readingEnds = s.endJob .disturbed .localChange none none := by
  rw [State.readingEnds, if_pos h]

theorem readingEnds_undisturbed (s : State) (h : s.audit.initiator.disturbed = false) :
    s.readingEnds = { s with
      audit := { s.audit with initiator := { s.audit.initiator with
        state := .waiting, mark := (s.stream s.audit.initiator.stream).nextSeq - 1
        timer := s.startTimer (s.global.auditTimeout * 1000), dgqDue := true } }
      link := { s.link with class4 :=
        if .dgq ∈ s.link.class4 then s.link.class4 else s.link.class4 ++ [.dgq] } } := by
  rw [State.readingEnds, if_neg (by simp [h]), State.request4_eq]
  rfl

theorem responderResponse_dropped (s : State) (st : Status) (d : LineBytes)
    (h : s.softReset = true ∨ s.audit.responder.readOut ≠ .current) :
    s.responderResponse st d = s.setResponder { s.audit.responder with readOut := .none } := by
  unfold State.responderResponse
  dsimp only
  split
  · rfl
  · next live =>
    split
    · next hr => exact absurd hr (h.resolve_left live)
    all_goals rfl

theorem responderResponse_current (s : State) (st : Status) (d : LineBytes) (h : s.softReset = false)
    (hr : s.audit.responder.readOut = .current) :
    s.responderResponse st d = match st with
      | .okay => (s.setResponder { s.audit.responder with readOut := .none }).responderLine d
      | .error => (s.setResponder { s.audit.responder with readOut := .none }).endResponder .refused .memory 0#32 := by
  simp only [State.responderResponse, h, hr, Bool.false_eq_true, if_false] <;> rfl

theorem responderLine_more (s : State) (d : LineBytes)
    (h : s.audit.responder.nextLine + 1 < s.audit.responder.firstLine + s.audit.responder.lineCount) :
    s.responderLine d = s.setResponder { s.audit.responder with
      crc := crcLine s.audit.responder.crc d, nextLine := s.audit.responder.nextLine + 1 } := by
  rw [State.responderLine, if_pos h]

theorem responderLine_last (s : State) (d : LineBytes)
    (h : s.audit.responder.firstLine + s.audit.responder.lineCount ≤ s.audit.responder.nextLine + 1) :
    s.responderLine d = (s.setResponder { s.audit.responder with
      crc := crcLine s.audit.responder.crc d, nextLine := s.audit.responder.nextLine + 1 }).responderEnds := by
  rw [State.responderLine, if_neg (by omega)]

/-- Settles O31: the flag clears first; a current read then ends its job by an ERROR, goes on, or ends READING. -/
theorem auditReadResponse : Obligations.AuditReadResponse := by
  intro st d m s h
  refine ⟨fun hm howner => ?_, fun hm howner => ?_⟩
  · rw [exec_mpResponse 21 st d s h, mpResponse_of s 21 st d m hm, deliver_initiator _ m st d howner]
    refine ⟨fun hdrop => ?_, fun hlive hr => ⟨fun hst => ?_, fun hst more => ?_, fun hst last hd => ?_,
      fun hst last hd => ?_⟩⟩
    · rw [initiatorResponse_dropped (s.retireTag 21) st d hdrop]
      rfl
    all_goals
      rw [initiatorResponse_current (s.retireTag 21) st d hlive hr]
      subst hst
    · exact ⟨_, rfl, State.jobEnded_endJob _ _ _ _ _⟩
    · refine next_settle ((initiatorLine_more _ d ?_).trans rfl)
      exact more
    · refine ⟨_, next_settle ((initiatorLine_last _ d ?_).trans (readingEnds_disturbed _ hd)), ?_⟩
      · exact last
      · exact State.jobEnded_endJob _ _ _ _ _
    · refine next_settle (((initiatorLine_last _ d ?_).trans (readingEnds_undisturbed _ ?_)).trans ?_)
      · exact last
      · exact hd
      · rfl
  · rw [exec_mpResponse 22 st d s h, mpResponse_of s 22 st d m hm, deliver_responder _ m st d howner]
    refine ⟨fun hdrop => ?_, fun hlive hr => ⟨fun hst => ?_, fun hst more => ?_, fun hst last hd => ?_,
      fun hst last hd => ?_⟩⟩
    · rw [responderResponse_dropped (s.retireTag 22) st d hdrop]
      rfl
    all_goals
      rw [responderResponse_current (s.retireTag 22) st d hlive hr]
      subst hst
    · exact ⟨_, rfl, State.responderEnded_endResponder _ _ _ _⟩
    · refine next_settle ((responderLine_more _ d ?_).trans rfl)
      exact more
    · refine ⟨_, next_settle ((responderLine_last _ d ?_).trans (if_pos hd)), ?_⟩
      · exact last
      · exact State.responderEnded_endResponder _ _ _ _
    · refine ⟨_, next_settle ((responderLine_last _ d ?_).trans (if_neg (Bool.eq_false_iff.mp hd))), ?_⟩
      · exact last
      · exact State.responderEnded_endResponder _ _ _ _

end Sys2Proof.Machine
end


section
/-! PROOFS. The hold slots in taking order, and the answers to a stream's held writes (R121). -/

namespace Sys2Proof.Machine

/-! ### The occupied slots in taking order -/

theorem State.hold_of_holds {s t : State} (h : t.holds = s.holds) (k : Fin 4) : t.hold k = s.hold k := by
  unfold State.hold
  rw [h]

theorem State.insertSlot_of_holds {s t : State} (h : t.holds = s.holds) (k : Fin 4) (l : List (Fin 4)) :
    t.insertSlot k l = s.insertSlot k l := by
  have order (j : Fin 4) : t.holdOrder j = s.holdOrder j := by
    unfold State.holdOrder
    rw [State.hold_of_holds h]
  induction l with
  | nil => rfl
  | cons j rest ih => simp only [State.insertSlot, order, ih]

/-- The taking order of a stream's held writes depends on the hold slots alone. -/
theorem State.heldSlots_of_holds {s t : State} (h : t.holds = s.holds) (i : StreamId) :
    t.heldSlots i = s.heldSlots i := by
  have hold : t.hold = s.hold := funext (State.hold_of_holds h)
  have insert : t.insertSlot = s.insertSlot := funext fun k => funext fun l => State.insertSlot_of_holds h k l
  unfold State.heldSlots State.slotsInOrder State.holdsStream
  rw [hold, insert]

theorem State.insertSlot_perm (s : State) (k : Fin 4) (l : List (Fin 4)) : (s.insertSlot k l).Perm (k :: l) := by
  induction l with
  | nil => exact .refl _
  | cons j rest ih =>
    unfold State.insertSlot
    split
    · exact .refl _
    · exact (ih.cons j).trans (.swap k j rest)

/-- The list is in taking order. -/
def State.inOrder (s : State) (l : List (Fin 4)) : Prop := l.Pairwise (fun j k => s.holdOrder j ≤ s.holdOrder k)

theorem State.inOrder_insertSlot (s : State) (k : Fin 4) (l : List (Fin 4)) (h : s.inOrder l) :
    s.inOrder (s.insertSlot k l) := by
  induction l with
  | nil => exact List.pairwise_singleton _ k
  | cons j rest ih =>
    obtain ⟨first, rest_in⟩ := List.pairwise_cons.mp h
    unfold State.insertSlot
    split
    · next lt =>
      refine List.pairwise_cons.mpr ⟨fun m hm => ?_, h⟩
      rcases List.mem_cons.mp hm with rfl | hm
      · exact Nat.le_of_lt lt
      · exact (Nat.le_of_lt lt).trans (first m hm)
    · next le =>
      refine List.pairwise_cons.mpr ⟨fun m hm => ?_, ih rest_in⟩
      rcases List.mem_cons.mp ((s.insertSlot_perm k rest).mem_iff.mp hm) with rfl | hm
      · exact Nat.le_of_not_lt le
      · exact first m hm

theorem State.foldl_insertSlot (s : State) (l acc : List (Fin 4)) :
    (l.foldl (fun l k => s.insertSlot k l) acc).Perm (l ++ acc) ∧
      (s.inOrder acc → s.inOrder (l.foldl (fun l k => s.insertSlot k l) acc)) := by
  induction l generalizing acc with
  | nil => exact ⟨.refl _, id⟩
  | cons k rest ih =>
    obtain ⟨perm, ordered⟩ := ih (s.insertSlot k acc)
    refine ⟨perm.trans ?_, fun h => ordered (s.inOrder_insertSlot k acc h)⟩
    exact ((s.insertSlot_perm k acc).append_left rest).trans List.perm_middle

theorem allSlots_nodup : allSlots.Nodup := by decide

theorem mem_allSlots (k : Fin 4) : k ∈ allSlots := by
  revert k
  decide

theorem State.slotsInOrder_perm (s : State) :
    s.slotsInOrder.Perm (allSlots.filter (fun k => (s.hold k).isSome)) := by
  have perm := (s.foldl_insertSlot (allSlots.filter (fun k => (s.hold k).isSome)) []).1
  rwa [List.append_nil] at perm

theorem State.mem_slotsInOrder (s : State) (k : Fin 4) : k ∈ s.slotsInOrder ↔ (s.hold k).isSome = true := by
  rw [s.slotsInOrder_perm.mem_iff, List.mem_filter]
  exact ⟨And.right, fun h => ⟨mem_allSlots k, h⟩⟩

theorem State.slotsInOrder_nodup (s : State) : s.slotsInOrder.Nodup :=
  s.slotsInOrder_perm.nodup_iff.mpr (allSlots_nodup.filter _)

theorem State.holdsStream_iff (s : State) (i : StreamId) (k : Fin 4) :
    s.holdsStream i k = true ↔ ∃ h, s.hold k = some h ∧ h.stream = i := by
  unfold State.holdsStream
  cases s.hold k <;> simp

theorem State.mem_heldSlots (s : State) (i : StreamId) (k : Fin 4) :
    k ∈ s.heldSlots i ↔ ∃ h, s.hold k = some h ∧ h.stream = i := by
  unfold State.heldSlots
  rw [List.mem_filter, State.holdsStream_iff, State.mem_slotsInOrder]
  exact ⟨And.right, fun h => ⟨by obtain ⟨w, hw, -⟩ := h; rw [hw]; rfl, h⟩⟩

theorem State.heldSlots_nodup (s : State) (i : StreamId) : (s.heldSlots i).Nodup := s.slotsInOrder_nodup.filter _

/-- The slots of a stream are listed in taking order (R119, R121). -/
theorem State.heldSlots_inOrder (s : State) (i : StreamId) :
    (s.heldSlots i).Pairwise (fun j k => ∀ g h, s.hold j = some g → s.hold k = some h → g.order ≤ h.order) := by
  have ordered : s.inOrder s.slotsInOrder := (s.foldl_insertSlot _ []).2 .nil
  refine (List.Pairwise.filter _ ordered).imp fun {j k} le g h hg hh => ?_
  simpa only [State.holdOrder, hg, hh] using le

/-! ### Held writes answered -/

/-- The answer of a held write that is not performed. -/
def HeldWrite.errorResponse (h : HeldWrite) : SpResponse := { tag := h.tag, status := .error, data := [] }

/-- A slot still holds its write, with its rank in the taking order moved, or is empty as before. -/
def State.reranked (s t : State) (k : Fin 4) : Prop :=
  (s.hold k = none → t.hold k = none) ∧ ∀ h, s.hold k = some h → ∃ n, t.hold k = some { h with order := n }

theorem State.reranked.refl (s : State) (k : Fin 4) : s.reranked s k := ⟨id, fun h hk => ⟨h.order, hk⟩⟩

theorem State.reranked.trans {s t u : State} {k : Fin 4} (h : s.reranked t k) (h' : t.reranked u k) :
    s.reranked u k := by
  refine ⟨fun hk => h'.1 (h.1 hk), fun w hw => ?_⟩
  obtain ⟨n, hn⟩ := h.2 w hw
  have moved := h'.2 _ hn
  exact moved

theorem State.reranked_answerHold (s : State) (k j : Fin 4) (hj : j ≠ k) : s.reranked (s.answerHold k) j := by
  cases hk : s.hold k with
  | none =>
    have same : s.answerHold k = s := by rw [State.answerHold, hk]
    rw [same]
    exact .refl s j
  | some h =>
    have hold : (s.answerHold k).hold j = (s.emptyHold k).hold j := by
      rw [s.answerHold_of k h hk]
      rfl
    unfold State.reranked
    rw [hold, s.hold_emptyHold_ne k j h hk hj]
    exact ⟨fun e => by rw [e]; rfl, fun w hw => ⟨_, by rw [hw]; rfl⟩⟩

theorem State.hold_answerHold_self (s : State) (k : Fin 4) : (s.answerHold k).hold k = none := by
  cases hk : s.hold k with
  | none =>
    have same : s.answerHold k = s := by rw [State.answerHold, hk]
    rw [same, hk]
  | some h =>
    rw [s.answerHold_of k h hk]
    exact s.hold_emptyHold_self k h hk

theorem State.answerHold_eq (s : State) (k : Fin 4) :
    s.answerHold k = { s with
      holds := (s.answerHold k).holds
      sp := { s.sp with responses := s.sp.responses ++ ((s.hold k).map HeldWrite.errorResponse).toList } } := by
  cases hk : s.hold k with
  | none =>
    have same : s.answerHold k = s := by rw [State.answerHold, hk]
    rw [same]
    simp
  | some h =>
    rw [s.answerHold_of k h hk]
    rfl

/-- The tags that answers are given for do not change while other slots empty. -/
theorem State.errorResponses_reranked {s t : State} (l : List (Fin 4)) (h : ∀ k ∈ l, s.reranked t k) :
    (l.filterMap t.hold).map HeldWrite.errorResponse = (l.filterMap s.hold).map HeldWrite.errorResponse := by
  induction l with
  | nil => rfl
  | cons k rest ih =>
    have tail := ih fun j hj => h j (List.mem_cons_of_mem k hj)
    obtain ⟨empty, full⟩ := h k List.mem_cons_self
    cases hk : s.hold k with
    | none => rw [List.filterMap_cons_none hk, List.filterMap_cons_none (empty hk), tail]
    | some w =>
      obtain ⟨n, hn⟩ := full w hk
      rw [List.filterMap_cons_some hk, List.filterMap_cons_some hn, List.map_cons, List.map_cons, tail]
      rfl

/-- Distinct slots answered one after another: the responses in their order, those slots empty, the others only
reranked. -/
theorem State.answerHolds_spec (l : List (Fin 4)) (s : State) (hl : l.Nodup) :
    s.answerHolds l = { s with
      holds := (s.answerHolds l).holds
      sp := { s.sp with
        responses := s.sp.responses ++ (l.filterMap s.hold).map HeldWrite.errorResponse } } ∧
    (∀ k ∈ l, (s.answerHolds l).hold k = none) ∧ ∀ k, k ∉ l → s.reranked (s.answerHolds l) k := by
  induction l generalizing s with
  | nil =>
    refine ⟨?_, fun k hk => (List.not_mem_nil hk).elim, fun k _ => State.reranked.refl s k⟩
    simp [State.answerHolds]
  | cons k rest ih =>
    obtain ⟨notin, nodup⟩ := List.nodup_cons.mp hl
    obtain ⟨frame, emptied, others⟩ := ih (s.answerHold k) nodup
    have ranks (j : Fin 4) (hj : j ∈ rest) : s.reranked (s.answerHold k) j :=
      s.reranked_answerHold k j fun e => notin (e ▸ hj)
    refine ⟨?_, fun j hj => ?_, fun j hj => ?_⟩
    · rw [State.errorResponses_reranked rest ranks] at frame
      refine frame.trans ?_
      generalize hv : ((s.answerHold k).answerHolds rest).holds = v
      have same : (s.answerHolds (k :: rest)).holds = v := hv
      rw [same, s.answerHold_eq k]
      cases hk : s.hold k <;> simp [hk]
    · rcases List.mem_cons.mp hj with rfl | hj
      · exact (others j notin).1 (s.hold_answerHold_self j)
      · exact emptied j hj
    · obtain ⟨ne, notrest⟩ : j ≠ k ∧ j ∉ rest := by simpa using hj
      exact (s.reranked_answerHold k j ne).trans (others j notrest)

/-- Every held write of a stream is answered in taking order (R121). -/
theorem State.holdsAnswered_answerStream {s v : State} (i : StreamId) (hsp : v.sp = s.sp) (hh : v.holds = s.holds) :
    s.holdsAnswered (v.answerStream i) i := by
  have slots := State.heldSlots_of_holds hh i
  have hold : v.hold = s.hold := funext (State.hold_of_holds hh)
  obtain ⟨frame, emptied, others⟩ := State.answerHolds_spec (v.heldSlots i) v (v.heldSlots_nodup i)
  have ranks (k : Fin 4) (hk : ∀ h, s.hold k = some h → h.stream ≠ i) : s.reranked (v.answerStream i) k := by
    have out : k ∉ v.heldSlots i := by
      rw [slots, s.mem_heldSlots]
      rintro ⟨h, hs, e⟩
      exact hk h hs e
    have moved := others k out
    unfold State.reranked at moved ⊢
    rwa [hold] at moved
  refine ⟨?_, fun k hk => ?_, fun k hk => ?_, fun k h hk hne => ?_⟩
  · rw [State.answerStream, frame, hsp, slots, hold]
    rfl
  · refine emptied k ?_
    rw [slots, s.mem_heldSlots]
    exact (s.holdsStream_iff i k).mp hk
  · exact (ranks k fun h hs => by rw [hk] at hs; cases hs).1 hk
  · exact (ranks k fun g hs => by rw [hk] at hs; cases hs; exact hne).2 h hk

theorem State.answerStream_eq (s : State) (i : StreamId) :
    s.answerStream i = { s with holds := (s.answerStream i).holds, sp := (s.answerStream i).sp } := by
  obtain ⟨frame, -, -⟩ := State.answerHolds_spec (s.heldSlots i) s (s.heldSlots_nodup i)
  unfold State.answerStream
  rw [frame]

end Sys2Proof.Machine
end


section
/-! PROOFS. The Stream Controller's moves, each as the definitions of Safety say it: entry to OFF, to DEGRADED, to LISTEN,
and what they do to the pool, the hold slots, the engine and the audit jobs. -/

namespace Sys2Proof.Machine

/-! ### Slots freed -/

theorem State.freeSlots_eq (s : State) (l : List Nat) :
    s.freeSlots l = { s with pool := s.pool.freed s.global.poolLowThreshold l } := by
  unfold State.freeSlots Pool.freed
  by_cases hl : l = []
  · rw [if_pos hl, if_pos hl]
  · rw [if_neg hl, if_neg hl]
    unfold State.poolRearm
    by_cases high : s.global.poolLowThreshold ≤ (s.pool.freeList ++ l).length
    · refine (if_pos high).trans ?_
      simp only [high, decide_true, Bool.or_true]
    · refine (if_neg high).trans ?_
      simp only [high, decide_false, Bool.or_false]

/-- A flush frees the records that are not CAPTURED and keeps the others flagged (R38, R39). -/
theorem State.flush_eq (s : State) (i : StreamId) :
    s.flush i = { s.setStream i { s.stream i with sendList := flushedList (s.stream i).sendList } with
      pool := s.pool.freed s.global.poolLowThreshold (s.stream i).flushedSlots } := by
  unfold State.flush
  rw [State.freeSlots_eq]
  rfl

theorem State.changeState_eq (s : State) (i : StreamId) (x : StreamState) (c : Cause) (r : Reason) :
    s.changeState i x c r = { s.setStream i { s.stream i with state := x, cause := c, reason := r } with
      owed := s.owed ++ [stateEvent i x c r] } := rfl

/-- A CLOSING stream's entry to OFF (R59). -/
theorem State.enteredOff_closingToOff (s : State) (i : StreamId) (c : Cause) (r : Reason) :
    s.enteredOff (s.closingToOff i c r) i c r := by
  unfold State.enteredOff State.closingToOff
  rw [State.changeState_eq, State.flush_eq]
  simp only [State.modStream, State.stream, State.setStream, vector_get_set, if_true, Vector.set_set]
  rfl

/-! ### The audit jobs of a stream that leaves -/

theorem State.abortAudit_eq (s : State) (i : StreamId) :
    s.abortAudit i = { s with audit := (s.abortAudit i).audit, events := (s.abortAudit i).events } := by
  unfold State.abortAudit
  split
  · rw [State.endJob, State.put_eq]
  · rfl

/-- A stream's leaving of ACTIVE ends its initiator job (R144). -/
theorem State.auditLeft_abortAudit (s : State) (i : StreamId) : s.auditLeft (s.abortAudit i) i := by
  refine ⟨fun h => ?_, fun h => ?_⟩
  · have ended : s.abortAudit i = s.endJob .aborted .stream s.audit.initiator.digest? none := if_pos h
    rw [ended]
    exact ⟨_, s.jobEnded_endJob _ _ _ _, rfl, rfl⟩
  · have same : s.abortAudit i = s := if_neg h
    rw [same]
    exact ⟨rfl, rfl⟩

theorem State.auditLeft.congr {s u v : State} {i : StreamId} (h : s.auditLeft u i) (ha : v.audit = u.audit)
    (he : v.events = u.events) : s.auditLeft v i := by
  unfold State.auditLeft at h ⊢
  rwa [ha, he]

theorem State.refuseResponder_eq (s : State) (i : StreamId) :
    s.refuseResponder i = { s with audit := (s.refuseResponder i).audit
                                   link := { s.link with class4 := (s.refuseResponder i).link.class4 } } := by
  unfold State.refuseResponder
  split
  · rw [State.endResponder, State.request4_eq]
  · rfl

/-- A responder job of a stream that is not bound as before ends REFUSED (R147). -/
theorem State.responderLeft_refuseResponder (s : State) (i : StreamId) : s.responderLeft (s.refuseResponder i) i := by
  unfold State.responderLeft
  split
  · next h =>
    have ended : s.refuseResponder i = s.endResponder .refused .notBound 0#32 := if_pos h
    rw [ended]
    exact ⟨_, s.responderEnded_endResponder _ _ _, rfl, rfl⟩
  · next h =>
    have same : s.refuseResponder i = s := if_neg h
    rw [same]
    exact ⟨rfl, rfl⟩

/-- What becomes of the responder job depends on the audit jobs and the class-4 requests alone. -/
theorem State.responderLeft.congr {s t u v : State} {i : StreamId} (h : s.responderLeft u i) (ha : t.audit = s.audit)
    (hl : t.link.class4 = s.link.class4) (hua : v.audit = u.audit) (hul : v.link.class4 = u.link.class4) :
    t.responderLeft v i := by
  unfold State.responderLeft at h ⊢
  rw [ha, hl, hua, hul]
  split
  · next c =>
    rw [if_pos c] at h
    obtain ⟨w, hw, e, e'⟩ := h
    refine ⟨t.endResponder .refused .notBound 0#32, t.responderEnded_endResponder _ _ _, ?_, ?_⟩
    all_goals
      unfold State.responderEnded at hw
      have ended := t.responderEnded_endResponder .refused .notBound 0#32
      unfold State.responderEnded at ended
      rw [ended]
    · rw [e, hw, ha]
    · rw [e', hw, hl]
  · next c =>
    rw [if_neg c] at h
    exact h

/-- A RECEIVE stream's entry to LISTEN or OFF (R63, R64). -/
theorem State.leftBound_leaveBound (s : State) (i : StreamId) (x : StreamState) (c : Cause) (r : Reason) :
    s.leftBound (s.leaveBound i x c r) i x c r := by
  let v := (s.staleEntries i).modStream i Stream.clearReceive
  have left : s.responderLeft (s.leaveBound i x c r) i :=
    (v.responderLeft_refuseResponder i).congr rfl rfl rfl rfl
  refine ⟨?_, left⟩
  have moved : s.leaveBound i x c r = (v.refuseResponder i).changeState i x c r := rfl
  rw [moved, State.changeState_eq, State.refuseResponder_eq]
  simp only [v, State.staleEntries, State.modStream, State.stream, State.setStream, vector_get_set, if_true,
    Vector.set_set]
  rfl

/-! ### The Resync Engine -/

theorem State.engineLeave_eq (s : State) (i : StreamId) :
    s.engineLeave i = { s with engine := (s.engineLeave i).engine } := by
  unfold State.engineLeave
  repeat' split
  all_goals rfl

/-- The engine leaves a stream that it waits for or has requested a read for (R136). -/
theorem State.engineLeft_engineLeave {s v : State} (i : StreamId) (h : v.engine = s.engine) :
    s.engineLeft (v.engineLeave i) i := by
  unfold State.engineLeft State.engineLeave
  rw [h]
  cases hs : s.engine.state with
  | idle | reading r => simp [h]
  | waiting j =>
    by_cases hj : j = i
    · simp [hj]
    · simp [hj, h]
  | requested j ses =>
    by_cases hj : j = i
    · simp [hj]
    · simp [hj, h]

/-! ### Dirty granules -/

theorem mem_insertGranule (g h : Nat) (l : List Nat) : g ∈ insertGranule h l ↔ g = h ∨ g ∈ l := by
  induction l with
  | nil => simp [insertGranule]
  | cons d rest ih =>
    unfold insertGranule
    split
    · simp
    split
    · next e => simp [e]
    · simp only [List.mem_cons, ih]
      tauto

/-- The dirty map of a stream with the granules of records marked one after another (R125). -/
def Stream.marking (st : Stream) (l : List Record) : List Nat :=
  l.foldl (fun d r => insertGranule (st.cfg.granuleOf r.line) d) st.dirty

theorem Stream.mem_marking (st : Stream) (l : List Record) (g : Nat) :
    g ∈ st.marking l ↔ g ∈ st.dirty ∨ ∃ r ∈ l, st.cfg.granuleOf r.line = g := by
  unfold Stream.marking
  generalize st.dirty = d
  induction l generalizing d with
  | nil => simp
  | cons r rest ih =>
    simp only [List.foldl_cons, ih, mem_insertGranule, List.exists_mem_cons_iff, @eq_comm _ g, or_assoc,
      or_left_comm]

/-- The dirty map that entry to DEGRADED leaves (R38, R56). -/
def Stream.degradedMap (st : Stream) : List Nat :=
  match st.copyPos with
  | none => st.marking st.sendList
  | some p => insertGranule p.granule (st.marking st.sendList)

theorem Stream.mem_degradedMap (st : Stream) (g : Nat) : g ∈ st.degradedMap ↔ st.degradedDirty g := by
  unfold Stream.degradedMap Stream.degradedDirty
  cases st.copyPos with
  | none => simp [Stream.mem_marking]
  | some p =>
    simp only [mem_insertGranule, Stream.mem_marking, Option.some.injEq, exists_eq_left', @eq_comm _ g]
    rw [or_comm, or_assoc]

theorem State.markLine_degraded (s : State) (i : StreamId) (line : LineIndex) (h : (s.stream i).state = .degraded) :
    s.markLine i line = s.modStream i (·.markDirty ((s.stream i).cfg.granuleOf line)) := by
  unfold State.markLine State.mark
  rw [h]

/-- A DEGRADED stream's records are marked without a change of state (R125). -/
theorem State.markRecords_degraded (l : List Record) (s : State) (i : StreamId)
    (h : (s.stream i).state = .degraded) :
    s.markRecords i l = s.setStream i { s.stream i with dirty := (s.stream i).marking l } := by
  induction l generalizing s with
  | nil => exact (s.setStream_self i).symm
  | cons r rest ih =>
    have marked := s.markLine_degraded i r.line h
    unfold State.markRecords
    rw [marked, ih _ (by rw [State.stream_modStream]; exact h), State.stream_modStream, State.modStream,
      State.setStream_setStream]
    rfl

/-- A stream as entry to DEGRADED leaves it (R38, R55, R56). -/
def Stream.degraded (st : Stream) (c : Cause) (r : Reason) : Stream :=
  { st with
    state := .degraded, cause := c, reason := r, sendList := flushedList st.sendList, dirty := st.degradedMap
    copyPos := none, cursor := none, retransmitTimer := none, handshakeTimer := none, handshakeDue := false
    retryCount := 0 }

theorem State.dropCopyMarked_degraded (s : State) (i : StreamId) (h : (s.stream i).state = .degraded) :
    s.dropCopyMarked i = s.setStream i { s.stream i with
      copyPos := none
      dirty := match (s.stream i).copyPos with
        | none => (s.stream i).dirty
        | some p => insertGranule p.granule (s.stream i).dirty } := by
  unfold State.dropCopyMarked
  split
  · next hp =>
    have same : { s.stream i with copyPos := none } = s.stream i := by rw [← hp]
    simp only [hp, same, State.setStream_self]
  · next p hp =>
    have state : ((s.modStream i (fun st => { st with copyPos := none })).stream i).state = .degraded := by
      rw [State.stream_modStream]
      exact h
    unfold State.mark
    rw [state]
    simp only [State.modStream_modStream, hp]
    rfl

/-- The part of the entry to DEGRADED that is the stream's own: its state, its flush and its map. -/
theorem State.degraded_stream (s : State) (i : StreamId) (c : Cause) (r : Reason) :
    (((s.changeState i .degraded c r).flushMarking i).dropCopyMarked i).modStream i
        (fun st => { st.clearSend.clearHandshake with retryCount := 0 }) =
      { s.setStream i ((s.stream i).degraded c r) with
        pool := s.pool.freed s.global.poolLowThreshold (s.stream i).flushedSlots
        owed := s.owed ++ [stateEvent i .degraded c r] } := by
  have marked := State.markRecords_degraded ((s.changeState i .degraded c r).stream i).sendList
    (s.changeState i .degraded c r) i (by rw [State.stream_changeState])
  have flushed : (s.changeState i .degraded c r).flushMarking i =
      { s.setStream i { s.stream i with
          state := .degraded, cause := c, reason := r, sendList := flushedList (s.stream i).sendList
          dirty := (s.stream i).marking (s.stream i).sendList } with
        pool := s.pool.freed s.global.poolLowThreshold (s.stream i).flushedSlots
        owed := s.owed ++ [stateEvent i .degraded c r] } := by
    rw [State.flushMarking, marked, State.flush_eq, State.changeState_eq]
    simp only [State.stream, State.setStream, vector_get_set, if_true, Vector.set_set]
    rfl
  rw [flushed, State.dropCopyMarked_degraded _ i (by simp [State.stream, State.setStream, vector_get_set])]
  simp only [State.modStream, State.stream, State.setStream, vector_get_set, if_true, Vector.set_set]
  rfl

/-- The stream's own part of the entry, made after its audit has ended. -/
def State.degradedAt (s : State) (i : StreamId) (c : Cause) (r : Reason) : State :=
  { (s.abortAudit i).setStream i ((s.stream i).degraded c r) with
    pool := s.pool.freed s.global.poolLowThreshold (s.stream i).flushedSlots
    owed := s.owed ++ [stateEvent i .degraded c r] }

theorem State.toDegraded_eq (s : State) (i : StreamId) (c : Cause) (r : Reason) :
    s.toDegraded i c r = ((s.degradedAt i c r).answerStream i).engineLeave i := by
  dsimp only [State.toDegraded]
  rw [State.degraded_stream]
  unfold State.degradedAt
  rw [State.abortAudit_eq]
  rfl

/-- The entry to DEGRADED, as the stream's part, the hold slots, the engine and the audit jobs together. -/
theorem State.toDegraded_parts (s : State) (i : StreamId) (c : Cause) (r : Reason) :
    s.toDegraded i c r = { s.setStream i ((s.stream i).degraded c r) with
      pool := s.pool.freed s.global.poolLowThreshold (s.stream i).flushedSlots
      owed := s.owed ++ [stateEvent i .degraded c r]
      sp := (s.toDegraded i c r).sp, holds := (s.toDegraded i c r).holds, engine := (s.toDegraded i c r).engine
      audit := (s.abortAudit i).audit, events := (s.abortAudit i).events } := by
  rw [State.toDegraded_eq, State.engineLeave_eq, State.answerStream_eq]
  unfold State.degradedAt
  rw [State.abortAudit_eq]
  rfl

/-- The parts of the entry to DEGRADED make the entry. -/
theorem State.enteredDegraded_of_parts {s u : State} {i : StreamId} {c : Cause} {r : Reason}
    (parts : u = { s.setStream i ((s.stream i).degraded c r) with
      pool := s.pool.freed s.global.poolLowThreshold (s.stream i).flushedSlots
      owed := s.owed ++ [stateEvent i .degraded c r], sp := u.sp, holds := u.holds, engine := u.engine
      audit := (s.abortAudit i).audit, events := (s.abortAudit i).events })
    (answered : s.holdsAnswered u i) (left : s.engineLeft u i) : s.enteredDegraded u i c r := by
  have streams : u.streams = (s.setStream i ((s.stream i).degraded c r)).streams := (congrArg State.streams parts :)
  have stream (j : StreamId) : u.stream j = (s.setStream i ((s.stream i).degraded c r)).stream j :=
    State.stream_of_streams _ u streams j
  have own : u.stream i = (s.stream i).degraded c r := by rw [stream, State.stream_setStream]
  refine ⟨?_, ?_, fun g => ?_, fun j hj => ?_, congrArg State.pool parts, answered, congrArg State.owed parts, left,
    (s.auditLeft_abortAudit i).congr (congrArg State.audit parts :) (congrArg State.events parts :), ?_⟩
  · rw [own]
    rfl
  · rw [own]
    rfl
  · rw [own]
    exact (s.stream i).mem_degradedMap g
  · rw [stream, State.stream_setStream_ne s i j _ hj]
  · rw [parts]
    rfl

/-- Entry to DEGRADED with its entry actions (R55, R56). -/
theorem State.enteredDegraded_toDegraded (s : State) (i : StreamId) (c : Cause) (r : Reason) :
    s.enteredDegraded (s.toDegraded i c r) i c r := by
  have sp : (s.degradedAt i c r).sp = s.sp := (State.abortAudit_frame s i).1
  have holds : (s.degradedAt i c r).holds = s.holds := by simp [State.degradedAt]
  have engine : ((s.degradedAt i c r).answerStream i).engine = s.engine := by
    rw [State.answerStream_eq]
    simp [State.degradedAt]
  refine State.enteredDegraded_of_parts (s.toDegraded_parts i c r) ?_ ?_
  · rw [State.toDegraded_eq, State.engineLeave_eq]
    exact State.holdsAnswered_answerStream i sp holds
  · rw [State.toDegraded_eq]
    exact State.engineLeft_engineLeave i engine

end Sys2Proof.Machine
end


section
/-! PROOFS. The link's moves, each as the definitions of Safety say it: a retrain, the streams at a link DOWN, and the
reaching of UP. -/

namespace Sys2Proof.Machine

/-! ### Retrain -/

theorem State.put_time (s : State) (c : EventCode) (x : Option StreamId) (d : BitVec 20) :
    (s.put c x d).events.time = s.events.time := by
  unfold State.put
  split <;> rfl

/-- A timer started depends on the time counter alone. -/
theorem State.startTimer_of_time {s t : State} (h : t.events.time = s.events.time) (n : Nat) :
    t.startTimer n = s.startTimer n := by
  unfold State.startTimer State.expiryIn
  rw [h]

/-- What the link's leaving of UP and its new training leave of a state (R69, R78, R94, R111). -/
theorem State.leaveUp_enterTraining (s : State) :
    s.leaveUp.enterTraining = { s with
      link := { s.link with
        state := .training, confirmed := false, heard := false, heardSent := false, lastAdvert := 0, credits := 0
        txNumber := 0#8, rxNumber := 0#8, keepaliveTimer := none, silenceTimer := none, downTimer := none
        trainingTimer := s.startTimer (s.global.trainingTimeout * 100), helloTimer := s.startTimer 10
        helloRequest := true, class2 := [], class3 := [], class4 := [] }
      streams := s.leaveUp.streams
      apply := { s.apply with pendingCredits := 0 } } := rfl

theorem State.putProtocolError_eq (s : State) (c : RetrainCause) :
    s.putProtocolError c = { s with events := (s.putProtocolError c).events } := by
  unfold State.putProtocolError
  split
  · rw [State.put_eq]
  · rfl

theorem State.putProtocolError_time (s : State) (c : RetrainCause) :
    (s.putProtocolError c).events.time = s.events.time := by
  unfold State.putProtocolError
  split
  · rw [State.put_time]
  · rfl

/-- The state at a retrain, its events put, before the link leaves UP (R78). -/
def State.retraining (s : State) (c : RetrainCause) : State :=
  (s.putProtocolError c).put .linkRetrain none (BitVec.ofNat 20 c.code)

theorem State.retraining_eq (s : State) (c : RetrainCause) :
    s.retraining c = { s with events := (s.retraining c).events } := by
  unfold State.retraining
  rw [State.put_eq, State.putProtocolError_eq]

theorem State.retraining_time (s : State) (c : RetrainCause) : (s.retraining c).events.time = s.events.time :=
  (State.put_time _ _ _ _).trans (s.putProtocolError_time c)

theorem State.stream_leaveUp (s : State) (i : StreamId) : s.leaveUp.stream i = (s.stream i).linkLeftUp :=
  State.stream_mapStreams s (fun _ st => st.linkLeftUp) i

/-- A retrain with its cause (R78, Table 4-6). -/
theorem State.retrained_retrain (s : State) (c : RetrainCause) : s.retrained (s.retrain c) c.code c.protocolError := by
  have timer (n : Nat) : (s.retraining c).startTimer n = s.startTimer n :=
    State.startTimer_of_time (s.retraining_time c) n
  have events : (s.retraining c).events = (State.put (match c.protocolError with
      | some d => s.put .protocolError none (BitVec.ofNat 20 d)
      | none => s) .linkRetrain none (BitVec.ofNat 20 c.code)).events := by
    cases c <;> rfl
  have stream (i : StreamId) : (s.retraining c).stream i = s.stream i := by rw [State.retraining_eq]; rfl
  refine ⟨?_, fun i => ?_⟩
  · change (s.retraining c).leaveUp.enterTraining = _
    have moved := (s.retraining c).leaveUp_enterTraining
    rw [timer, timer, events] at moved
    have streams : (s.retrain c).streams = (s.retraining c).leaveUp.streams := rfl
    rw [streams]
    refine moved.trans ?_
    have same := s.retraining_eq c
    generalize (s.retraining c).leaveUp.streams = v
    generalize s.retraining c = w at same ⊢
    rw [same] <;> rfl
  · change (s.retraining c).leaveUp.enterTraining.stream i = _
    have streams : (s.retraining c).leaveUp.enterTraining.streams = (s.retraining c).leaveUp.streams := rfl
    rw [State.stream_of_streams _ _ streams, State.stream_leaveUp, stream]
    rfl

/-! ### Link DOWN -/

theorem State.wentDown_streamDown (s : State) (i : StreamId) : s.wentDown (s.streamDown i) i := by
  unfold State.wentDown State.streamDown
  cases (s.stream i).state with
  | opening | resync | active => exact s.enteredDegraded_toDegraded i .linkDown .none
  | closing => exact s.enteredOff_closingToOff i .linkDown .none
  | bound => exact s.leftBound_leaveBound i .listen .linkDown .none
  | off | degraded | listen => rfl

/-- The state after the first streams have met the link DOWN event. -/
def State.downTo (s : State) (n : Nat) : State := s.eachStream State.streamDown (allStreams.take n)

theorem State.eachStream_append (f : State → StreamId → State) (l m : List StreamId) (s : State) :
    s.eachStream f (l ++ m) = (s.eachStream f l).eachStream f m := by
  induction l generalizing s with
  | nil => rfl
  | cons i rest ih => exact ih (f s i)

theorem allStreams_take_succ (i : StreamId) : allStreams.take (i.val + 1) = allStreams.take i.val ++ [i] := by
  revert i
  decide

theorem State.downTo_succ (s : State) (i : StreamId) : s.downTo (i.val + 1) = (s.downTo i.val).streamDown i := by
  unfold State.downTo
  rw [allStreams_take_succ, State.eachStream_append, State.eachStream, State.eachStream]

/-- The streams at a link DOWN event, in ascending number (R49, R65). -/
theorem State.streamsWentDown_streamsDown (s : State) : s.streamsWentDown s.streamsDown := by
  have all : s.downTo 8 = s.streamsDown :=
    congrArg (s.eachStream State.streamDown) (rfl : allStreams.take 8 = allStreams)
  have start : s.downTo 0 = s := rfl
  refine ⟨fun k => s.downTo k.val, start, all, fun i => ?_⟩
  have next : s.downTo i.succ.val = (s.downTo i.castSucc.val).streamDown i := s.downTo_succ i
  dsimp only
  rw [next]
  exact State.wentDown_streamDown _ i

/-! ### Reaching UP -/

/-- A stream as auto-reopen leaves it (R51, R57). -/
def Stream.reopened (st : Stream) : Stream :=
  { st with
    state := .opening, cause := .autoReopen, reason := .none, session := st.session + 1, nextSeq := 0#16
    ackedSeq := 65535#16, sentSeq := 65535#16, retryCount := 0, handshakeDue := true, handshakeTimer := none
    copyPos := none, cursor := none, retransmitTimer := none }

theorem State.autoReopen_of (s : State) (i : StreamId) (h : (s.stream i).reopens) :
    s.autoReopen i = { s.setStream i (s.stream i).reopened with
      owed := s.owed ++ [stateEvent i .opening .autoReopen .none] } := by
  have opens : s.autoReopen i = s.toOpening i .autoReopen := if_pos h
  rw [opens]
  unfold State.toOpening
  dsimp only
  rw [State.changeState_eq, State.stream_modStream, State.modStream, State.setStream_setStream]
  rfl

theorem State.autoReopen_not (s : State) (i : StreamId) (h : ¬ (s.stream i).reopens) : s.autoReopen i = s := if_neg h

/-- The entries that the auto-reopening of streams owes, in the order of a list. -/
def State.reopenOwed (s : State) (l : List StreamId) : List OwedEvent :=
  l.flatMap (fun i => if (s.stream i).reopens then [stateEvent i .opening .autoReopen .none] else [])

theorem State.reopenOwed_cons (s : State) (i : StreamId) (l : List StreamId) :
    s.reopenOwed (i :: l) =
      (if (s.stream i).reopens then [stateEvent i .opening .autoReopen .none] else []) ++ s.reopenOwed l := rfl

theorem State.reopenOwed_of_streams {s t : State} (h : t.streams = s.streams) (l : List StreamId) :
    t.reopenOwed l = s.reopenOwed l :=
  List.flatMap_congr fun i _ => by rw [State.stream_of_streams s t h]

/-- Distinct streams reopened one after another: only their own entries in the Stream Table change. -/
theorem State.eachStream_autoReopen (l : List StreamId) (s : State) (hl : l.Nodup) :
    s.eachStream State.autoReopen l = { s with
      streams := (s.eachStream State.autoReopen l).streams, owed := s.owed ++ s.reopenOwed l } ∧
    (∀ i, i ∉ l → (s.eachStream State.autoReopen l).stream i = s.stream i) ∧
    ∀ i ∈ l, (s.eachStream State.autoReopen l).stream i =
      if (s.stream i).reopens then (s.stream i).reopened else s.stream i := by
  induction l generalizing s with
  | nil =>
    refine ⟨?_, fun _ _ => rfl, fun i hi => (List.not_mem_nil hi).elim⟩
    simp [State.eachStream, State.reopenOwed]
  | cons i rest ih =>
    obtain ⟨notin, nodup⟩ := List.nodup_cons.mp hl
    obtain ⟨frame, outside, inside⟩ := ih (s.autoReopen i) nodup
    have others (j : StreamId) (hj : j ≠ i) : (s.autoReopen i).stream j = s.stream j := by
      by_cases h : (s.stream i).reopens
      · rw [s.autoReopen_of i h]
        exact s.stream_setStream_ne i j _ hj
      · rw [s.autoReopen_not i h]
    have own : (s.autoReopen i).stream i = if (s.stream i).reopens then (s.stream i).reopened else s.stream i := by
      by_cases h : (s.stream i).reopens
      · rw [s.autoReopen_of i h, if_pos h]
        exact s.stream_setStream i _
      · rw [s.autoReopen_not i h, if_neg h]
    have owed : (s.autoReopen i).reopenOwed rest = s.reopenOwed rest :=
      List.flatMap_congr fun j hj => by rw [others j fun e => notin (e ▸ hj)]
    refine ⟨?_, fun j hj => ?_, fun j hj => ?_⟩
    · rw [owed] at frame
      refine frame.trans ?_
      generalize hv : ((s.autoReopen i).eachStream State.autoReopen rest).streams = v
      have same : (s.eachStream State.autoReopen (i :: rest)).streams = v := hv
      rw [same]
      by_cases h : (s.stream i).reopens
      · rw [s.autoReopen_of i h, State.reopenOwed_cons, if_pos h, ← List.append_assoc]
        rfl
      · rw [s.autoReopen_not i h, State.reopenOwed_cons, if_neg h, List.nil_append]
    · obtain ⟨ne, out⟩ : j ≠ i ∧ j ∉ rest := by simpa using hj
      exact (outside j out).trans (others j ne)
    · rcases List.mem_cons.mp hj with rfl | hj
      · exact (outside j notin).trans own
      · have ne : j ≠ i := fun e => notin (e ▸ hj)
        have moved := inside j hj
        rw [others j ne] at moved
        exact moved

theorem Stream.goesBack_iff (st : Stream) :
    (st.cfg.direction == .send && (st.state == .resync || st.state == .active || st.state == .closing) &&
      st.sendList.any Record.isSent) = true ↔ st.goesBack := by
  simp [Stream.goesBack, Record.isSent, or_assoc, and_assoc]

theorem Stream.reopened_linkReachedUp (st : Stream) (h : st.reopens) : st.linkReachedUp.reopened = st.reopened := by
  have unbound : (st.state == .bound) = false := by rw [h.2.1]; rfl
  unfold Stream.linkReachedUp Stream.reopened
  simp only [unbound, Bool.false_and, Bool.false_eq_true, if_false]

theorem Stream.linkReachedUp_eq (st : Stream) :
    st.linkReachedUp = { st with
      handshakeDue := st.handshakeDue || decide (st.cfg.direction = .send ∧
        (st.state = .opening ∨ (st.state = .closing ∧ st.sendList = [])))
      cursor := st.linkReachedUp.cursor
      ackCount := if st.state = .bound ∧ 0 < st.unacked ∧ st.ackCount = 0 then 1 else st.ackCount } := by
  have due : (st.cfg.direction == .send && (st.state == .opening || (st.state == .closing && st.usage == 0))) =
      decide (st.cfg.direction = .send ∧ (st.state = .opening ∨ (st.state = .closing ∧ st.sendList = []))) := by
    rw [Bool.eq_iff_iff]
    simp [Stream.usage]
  have owed : (st.state == .bound && decide (0 < st.unacked) && st.ackCount == 0) =
      decide (st.state = .bound ∧ 0 < st.unacked ∧ st.ackCount = 0) := by
    rw [Bool.eq_iff_iff]
    simp [and_assoc]
  unfold Stream.linkReachedUp
  simp only [due, owed, decide_eq_true_eq]

/-- A stream at the link's reaching of UP (R52, R57, R65, R95, R111). -/
theorem Stream.atUp_of (st : Stream) :
    st.atUp (if st.linkReachedUp.reopens then st.linkReachedUp.reopened else st.linkReachedUp) := by
  unfold Stream.atUp
  by_cases h : st.reopens
  · have opens : st.linkReachedUp.reopens := h
    rw [if_pos opens, st.reopened_linkReachedUp h]
    exact ⟨fun _ => rfl, fun no => absurd h no⟩
  · have stays : ¬ st.linkReachedUp.reopens := h
    rw [if_neg stays]
    refine ⟨fun yes => absurd yes h, fun _ => ⟨st.linkReachedUp_eq, fun back => ?_, fun back => ?_⟩⟩
    · exact if_pos (st.goesBack_iff.mpr back)
    · exact if_neg (mt st.goesBack_iff.mp back)

/-- What the streams do at the link's reaching of UP: nothing but their own entries and what they owe changes. -/
theorem State.streamsUp_spec (s : State) :
    s.streamsUp = { s with streams := s.streamsUp.streams, owed := s.owed ++ s.reopenOwed allStreams } ∧
      ∀ i, (s.stream i).atUp (s.streamsUp.stream i) := by
  let v := s.mapStreams (fun _ st => st.linkReachedUp)
  have stream (i : StreamId) : v.stream i = (s.stream i).linkReachedUp := State.stream_mapStreams s _ i
  have owed : v.reopenOwed allStreams = s.reopenOwed allStreams :=
    List.flatMap_congr fun i _ => by rw [stream i]; rfl
  obtain ⟨frame, -, inside⟩ := State.eachStream_autoReopen allStreams v (by decide)
  rw [owed] at frame
  refine ⟨frame, fun i => ?_⟩
  have moved := inside i (mem_allStreams i)
  rw [stream] at moved
  have reached : s.streamsUp.stream i = _ := moved
  rw [reached]
  exact (s.stream i).atUp_of

/-- The state at the link's reaching of UP, LINK_UP put, before the streams act (R70). -/
def State.linkUp (s : State) (first : Option Byte) : State :=
  { s with
    link := { s.link with
      state := .up, trainingTimer := none, helloTimer := none, txNumber := 0#8, credits := s.link.lastAdvert
      rxNumber := match first with
        | none => 0#8
        | some n => n + 1
      confirmed := first.isSome, silenceTimer := s.startTimer (s.global.silence * 10)
      keepaliveTimer := s.startTimer (s.global.keepalive * 10), helloRequest := true }
    events := (s.put .linkUp none (BitVec.ofNat 20 s.link.lastAdvert)).events }

theorem State.reachUp_eq (s : State) (first : Option Byte) : s.reachUp first = (s.linkUp first).streamsUp := by
  let v := State.requestHello (State.startKeepalive (State.startSilence { s with link := { s.link with
    state := .up, trainingTimer := none, helloTimer := none, txNumber := 0#8, credits := s.link.lastAdvert
    rxNumber := match first with
      | none => 0#8
      | some n => n + 1
    confirmed := first.isSome } }))
  have events := State.put_events_congr (s := s) (t := v) rfl .linkUp none (BitVec.ofNat 20 s.link.lastAdvert)
  change (v.put .linkUp none (BitVec.ofNat 20 s.link.lastAdvert)).streamsUp = _
  rw [State.put_eq, events]
  rfl

/-- The expected receive number at the link's reaching of UP (R70). -/
def expectedAfter (first : Option Byte) : Byte :=
  match first with
  | none => 0#8
  | some n => n + 1

/-- Reaching UP at a HELLO (R70): by its own count where it is of TRAINING, else by the advert heard before. -/
theorem State.reachedUp_reachUp (s : State) (f : HelloFrame) (first : Option Byte) (h : first.isSome = f.senderUp) :
    s.reachedUp ((s.partnerHeard f).reachUp first) f (if f.senderUp then s.link.lastAdvert else f.count.toNat)
      (expectedAfter first) := by
  obtain ⟨frame, streams⟩ := ((s.partnerHeard f).linkUp first).streamsUp_spec
  have owed : ((s.partnerHeard f).linkUp first).reopenOwed allStreams = s.reopenOwed allStreams :=
    State.reopenOwed_of_streams rfl allStreams
  rw [owed] at frame
  rw [State.reachUp_eq]
  refine ⟨?_, streams⟩
  have events := State.put_events_congr (s := s) (t := s.partnerHeard f) rfl .linkUp none
    (BitVec.ofNat 20 (s.partnerHeard f).link.lastAdvert)
  refine frame.trans ?_
  generalize ((s.partnerHeard f).linkUp first).streamsUp.streams = v
  unfold State.linkUp
  rw [events, h]
  cases first <;> rfl

end Sys2Proof.Machine
end


section
/-! PROOFS. Frames that are not accepted (O36), and HELLO in every link state (O37, O38). -/

namespace Sys2Proof.Machine

/-! ### Frames that are not accepted -/

/-- Every frame but a HELLO is handed to the numbered examination with its owner. -/
theorem exec_arrival (f : Frame) (s : State) (hf : ∀ h, f ≠ .hello h) (hr : s.resetAsserted = false) :
    ∃ owner, exec f.arrival s = .next (settle (s.frameArrives f.number owner)) := by
  cases f with
  | hello h => exact absurd rfl (hf h)
  | record f => exact ⟨_, exec_recArrival f s hr⟩
  | ack f => exact ⟨_, exec_ackArrival f s hr⟩
  | nak f => exact ⟨_, exec_nakArrival f s hr⟩
  | openStream f => exact ⟨_, exec_openArrival f s hr⟩
  | opened f => exact ⟨_, exec_openedArrival f s hr⟩
  | refuse f => exact ⟨_, exec_refuseArrival f s hr⟩
  | close f => exact ⟨_, exec_closeArrival f s hr⟩
  | closed f => exact ⟨_, exec_closedArrival f s hr⟩
  | dgq f => exact ⟨_, exec_dgqArrival f s hr⟩
  | dgr f => exact ⟨_, exec_dgrArrival f s hr⟩

theorem frameArrives_discarded (n : Byte) (owner : State → State) (s : State) (h : s.link.state ≠ .up) :
    s.frameArrives n owner = s := by
  unfold State.frameArrives
  split
  · rfl
  split
  · next hs => exact absurd hs h
  all_goals rfl

theorem numberedFrame_gap (n : Byte) (owner : State → State) (s : State) (hn : n ≠ s.link.rxNumber) :
    s.numberedFrame n owner = s.startSilence.retrain .frameGap := if_neg hn

theorem frameArrives_gap (n : Byte) (owner : State → State) (s : State) (hlive : s.live) (h : s.link.state = .up)
    (hn : n ≠ s.link.rxNumber) : s.frameArrives n owner = s.startSilence.retrain .frameGap := by
  rw [State.frameArrives, hlive.2, if_neg Bool.false_ne_true, h]
  exact numberedFrame_gap n owner s hn

/-- The Event Queue after a retrain with its cause and its protocol error (R78). -/
def State.retrainEvents (s : State) (cause : Nat) (error : Option Nat) : EventQueue :=
  (State.put (match error with
    | some d => s.put .protocolError none (BitVec.ofNat 20 d)
    | none => s) .linkRetrain none (BitVec.ofNat 20 cause)).events

theorem State.retrainEvents_of_events {s t : State} (h : t.events = s.events) (cause : Nat) (error : Option Nat) :
    t.retrainEvents cause error = s.retrainEvents cause error := by
  cases error with
  | none => exact State.put_events_congr h _ _ _
  | some d => exact State.put_events_congr (State.put_events_congr h _ _ _) _ _ _

theorem State.retrained_iff (s u : State) (cause : Nat) (error : Option Nat) :
    s.retrained u cause error ↔ u = { s with
      events := s.retrainEvents cause error
      link := { s.link with
        state := .training, confirmed := false, heard := false, heardSent := false, lastAdvert := 0, credits := 0
        txNumber := 0#8, rxNumber := 0#8, keepaliveTimer := none, silenceTimer := none, downTimer := none
        trainingTimer := s.startTimer (s.global.trainingTimeout * 100), helloTimer := s.startTimer 10
        helloRequest := true, class2 := [], class3 := [], class4 := [] }
      streams := u.streams
      apply := { s.apply with pendingCredits := 0 } } ∧
    ∀ i, u.stream i = { s.stream i with
      handshakeTimer := none, handshakeDue := false, retransmitTimer := none, nakSlot := none, ackCount := 0
      nakOutstanding := false } := by
  cases error <;> exact Iff.rfl

/-- The silence timer that a frame restarts is stopped again by the retrain that it causes. -/
theorem State.retrained_of_startSilence {s u : State} {cause : Nat} {error : Option Nat}
    (h : s.startSilence.retrained u cause error) : s.retrained u cause error := by
  rw [State.retrained_iff, State.retrainEvents_of_events (s := s) (t := s.startSilence) rfl] at h
  rw [State.retrained_iff]
  exact h

/-- Settles O36: outside UP nothing happens but the count of failed checks; in UP each kind retrains with its cause. -/
theorem framesNotAccepted : Obligations.FramesNotAccepted := by
  refine ⟨fun f s hf h => ?_, fun s h => ⟨fun hs => ?_, fun hs => ?_, fun hs => ?_⟩, fun k s hk h => ?_⟩
  · obtain ⟨owner, e⟩ := exec_arrival f s hf h.1
    rw [e]
    refine ⟨fun hs => by rw [frameArrives_discarded _ owner s hs], fun hs hn => ⟨_, rfl, ?_⟩⟩
    rw [frameArrives_gap _ owner s h hs hn]
    exact State.retrained_of_startSilence (State.retrained_retrain _ .frameGap)
  · rw [exec_badFrameArrival s h.1]
    simp only [State.badFrame, h.2, hs, Bool.false_eq_true, if_false]
  · rw [exec_badFrameArrival s h.1]
    rcases hs with hs | hs <;> simp only [State.badFrame, h.2, hs, Bool.false_eq_true, if_false]
  · refine ⟨_, exec_badFrameArrival s h.1, ?_⟩
    simp only [State.badFrame, h.2, hs, Bool.false_eq_true, if_false]
    exact State.retrained_retrain _ .badCrc
  · have unknown : isFrameKind k = false := by
      unfold isFrameKind
      rcases hk with rfl | hk
      · rfl
      · rw [decide_eq_false (by omega : ¬ k.toNat ≤ 11), Bool.and_false]
    rw [exec_unknownKindArrival k s unknown h.1]
    refine ⟨fun hs => ?_, fun hs => ⟨_, rfl, ?_⟩⟩
    · cases hl : s.link.state <;> simp_all [State.unknownKind]
    · simp only [State.unknownKind, h.2, hs, Bool.false_eq_true, if_false]
      exact State.retrained_of_startSilence (State.retrained_retrain _ .unknownKind)

/-! ### HELLO before UP -/

theorem HelloFrame.valid_iff (f : HelloFrame) : HelloFrame.valid f = true ↔ f.senderUp = true ∨ f.count.toNat ≤ 32 := by
  simp [HelloFrame.valid]

theorem helloArrives_ignored (f : HelloFrame) (s : State)
    (h : s.link.state = .off ∨ ((s.link.state = .down ∨ s.link.state = .training) ∧ HelloFrame.valid f = false)) :
    s.helloArrives f = s := by
  unfold State.helloArrives
  rcases h with hs | ⟨hs | hs, v⟩
  · simp only [hs, ite_self]
  · simp only [hs, v, Bool.false_eq_true, if_false, ite_self]
  · simp only [hs, v, Bool.false_eq_true, if_false, ite_self]

theorem helloArrives_down (f : HelloFrame) (s : State) (hlive : s.live) (hs : s.link.state = .down)
    (v : HelloFrame.valid f = true) : s.helloArrives f = s.enterTraining.trainingHello f := by
  simp only [State.helloArrives, hlive.2, hs, v, Bool.false_eq_true, if_false, if_true]

theorem helloArrives_training (f : HelloFrame) (s : State) (hlive : s.live) (hs : s.link.state = .training)
    (v : HelloFrame.valid f = true) : s.helloArrives f = s.trainingHello f := by
  simp only [State.helloArrives, hlive.2, hs, v, Bool.false_eq_true, if_false, if_true]

/-- Training goes on where one side has not yet heard the other (R70). -/
theorem trainingHello_unheard (f : HelloFrame) (s : State) (h : ¬(f.heard = true ∧ s.link.heardSent = true)) :
    s.trainingHello f = s.partnerHeard f := if_neg h

theorem trainingHello_reaches (f : HelloFrame) (s : State) (h : f.heard = true) (h' : s.link.heardSent = true)
    (down : f.senderUp = false) : s.trainingHello f = (s.partnerHeard f).reachUp none := by
  have reached : s.trainingHello f = if f.senderUp = true then
      ((s.partnerHeard f).reachUp (some f.number)).creditReturn f.count id else (s.partnerHeard f).reachUp none :=
    if_pos ⟨h, h'⟩
  rw [reached, down, if_neg Bool.false_ne_true]

theorem trainingHello_reaches_up (f : HelloFrame) (s : State) (h : f.heard = true) (h' : s.link.heardSent = true)
    (up : f.senderUp = true) :
    s.trainingHello f = ((s.partnerHeard f).reachUp (some f.number)).creditReturn f.count id := by
  have reached : s.trainingHello f = if f.senderUp = true then
      ((s.partnerHeard f).reachUp (some f.number)).creditReturn f.count id else (s.partnerHeard f).reachUp none :=
    if_pos ⟨h, h'⟩
  rw [reached, up, if_pos rfl]

/-- A counter that stands at the last advert takes no credit return but 0 (R81). -/
theorem creditReturn_full (n : Byte) (s : State) (full : s.link.credits = s.link.lastAdvert) :
    (n = 0#8 → s.creditReturn n id = s) ∧ (n ≠ 0#8 → s.creditReturn n id = s.retrain .badCreditReturn) := by
  refine ⟨fun hn => ?_, fun hn => ?_⟩
  · subst hn
    exact if_pos (by rw [full]; exact Nat.le_refl _)
  · have positive : 0 < n.toNat := Nat.pos_of_ne_zero fun e => hn (BitVec.eq_of_toNat_eq e)
    exact if_neg (by omega)

/-- Settles O37: a HELLO is ignored, taken in TRAINING, or takes the link to UP. -/
theorem helloInTraining : Obligations.HelloInTraining := by
  intro f s h
  have run := exec_helloArrival f s h.1
  refine ⟨fun hs => ?_, fun hs hup hcount => ?_, fun hvalid => ?_⟩
  · rw [run, helloArrives_ignored f s (.inl hs)]
  · have invalid : HelloFrame.valid f = false :=
      Bool.eq_false_iff.mpr fun v => ((HelloFrame.valid_iff f).mp v).elim (by simp [hup]) (by omega)
    rw [run, helloArrives_ignored f s (.inr ⟨hs, invalid⟩)]
  have v := (HelloFrame.valid_iff f).mpr hvalid
  refine ⟨fun hs unheard => ?_, fun hs heard sent down => ?_, fun hs heard sent up => ?_, fun hs => ?_⟩
  · rw [run, helloArrives_training f s h hs v, trainingHello_unheard f s unheard]
    rfl
  · refine ⟨_, run, ?_⟩
    rw [helloArrives_training f s h hs v, trainingHello_reaches f s heard sent down]
    have reached := s.reachedUp_reachUp f none down.symm
    rw [down, if_neg Bool.false_ne_true] at reached
    exact reached
  · have reached := s.reachedUp_reachUp f (some f.number) up.symm
    rw [up, if_pos rfl] at reached
    refine ⟨_, (s.partnerHeard f).reachUp (some f.number), run, reached, ?_⟩
    rw [helloArrives_training f s h hs v, trainingHello_reaches_up f s heard sent up]
    generalize (s.partnerHeard f).reachUp (some f.number) = w at reached ⊢
    have link := congrArg State.link reached.1
    obtain ⟨zero, returned⟩ := creditReturn_full f.count w (by rw [link])
    exact ⟨zero, fun hn => by rw [returned hn]; exact State.retrained_retrain w .badCreditReturn⟩
  · rw [run, helloArrives_down f s h hs v, trainingHello_unheard f _ fun both => Bool.false_ne_true both.2]
    rfl

/-! ### HELLO in UP -/

theorem helloArrives_senderUp (f : HelloFrame) (s : State) (hlive : s.live) (hs : s.link.state = .up)
    (up : f.senderUp = true) :
    s.helloArrives f = s.numberedFrame f.number (fun v => v.creditReturn f.count (fun u => u.withPartner f.identity)) := by
  simp only [State.helloArrives, hlive.2, hs, up, Bool.false_eq_true, if_false, if_true]
  rfl

theorem helloArrives_partnerTrains (f : HelloFrame) (s : State) (hlive : s.live) (hs : s.link.state = .up)
    (down : f.senderUp = false) :
    s.helloArrives f = if HelloFrame.valid f then s.startSilence.partnerTraining f else s.startSilence := by
  simp only [State.helloArrives, hlive.2, hs, down, Bool.false_eq_true, if_false]

theorem numberedFrame_expected (n : Byte) (owner : State → State) (s : State) (hn : n = s.link.rxNumber) :
    s.numberedFrame n owner = owner s.atAcceptance := if_pos hn

/-- Settles O38: in UP a HELLO returns credits, refreshes the adverts or retrains the link. -/
theorem helloInUp : Obligations.HelloInUp := by
  intro f s h hs
  have run := exec_helloArrival f s h.1
  refine ⟨fun up => ?_, fun down hcount => ?_, fun down hcount => ?_⟩
  · rw [run, helloArrives_senderUp f s h hs up]
    refine ⟨fun hn fits => ?_, fun hn unfit => ⟨_, rfl, ?_⟩, fun hn => ⟨_, rfl, ?_⟩⟩
    · rw [numberedFrame_expected _ _ s hn, creditReturn_fits f.count _ s fits]
      rfl
    · rw [numberedFrame_expected _ _ s hn, creditReturn_unfit f.count _ s unfit]
      exact State.retrained_retrain _ .badCreditReturn
    · rw [numberedFrame_gap _ _ s hn]
      exact State.retrained_of_startSilence (State.retrained_retrain _ .frameGap)
  · have invalid : HelloFrame.valid f = false :=
      Bool.eq_false_iff.mpr fun v => ((HelloFrame.valid_iff f).mp v).elim (by simp [down]) (by omega)
    rw [run, helloArrives_partnerTrains f s h hs down, invalid, if_neg Bool.false_ne_true]
    rfl
  · have v := (HelloFrame.valid_iff f).mpr (.inr hcount)
    rw [run, helloArrives_partnerTrains f s h hs down, if_pos v]
    refine ⟨fun unconfirmed heard => ?_, fun trains => ?_⟩
    · have refreshed : s.startSilence.partnerTraining f = _ := if_pos ⟨unconfirmed, heard⟩
      rw [refreshed]
      rfl
    · have retrains : s.startSilence.partnerTraining f = (s.startSilence.retrain .partnerRetrain).trainingHello f := by
        refine if_neg fun both => ?_
        obtain ⟨unconfirmed, heard⟩ := both
        have confirmed : s.link.confirmed = false := unconfirmed
        rcases trains with e | e
        · exact Bool.false_ne_true (confirmed.symm.trans e)
        · exact Bool.false_ne_true (e.symm.trans heard)
      refine ⟨_, s.startSilence.retrain .partnerRetrain, rfl,
        State.retrained_of_startSilence (State.retrained_retrain _ .partnerRetrain), ?_⟩
      rw [retrains, trainingHello_unheard f _ fun both => Bool.false_ne_true both.2]
      unfold State.partnerHeard
      rw [down, if_neg Bool.false_ne_true]

end Sys2Proof.Machine
end


section
/-! PROOFS. Accepted REC frames (O39). -/

namespace Sys2Proof.Machine

/-! ### Sequence comparison -/

theorem seqAfter_self (a : Seq) : seqAfter a a = false := by
  simp [seqAfter]

/-- No sequence number is after another that is after it. -/
theorem seqAfter_asymm (a b : Seq) (h : seqAfter a b = true) : seqAfter b a = false := by
  simp only [seqAfter, Bool.and_eq_true, Bool.and_eq_false_iff, decide_eq_true_eq, decide_eq_false_iff_not] at h ⊢
  bv_omega

theorem ne_of_seqAfter (a b : Seq) (h : seqAfter a b = true) : a ≠ b := by
  rintro rfl
  rw [seqAfter_self] at h
  exact Bool.false_ne_true h

/-! ### The kind and the mask of a REC frame -/

/-- The kind and the mask of the frame agree (R167). -/
def RecFrame.maskFits (f : RecFrame) : Prop :=
  (f.kind = 0#8 ∧ f.mask ≠ 0#64) ∨ (f.kind = 1#8 ∧ f.mask = BitVec.allOnes 64) ∨ (f.kind = 2#8 ∧ f.mask = 0#64)

theorem RecordKind.ofCode_eq_some (n : Nat) (k : RecordKind) (h : RecordKind.ofCode n = some k) : n = k.code := by
  unfold RecordKind.ofCode at h
  split at h
  · cases h; rfl
  · cases h; rfl
  · cases h; rfl
  · exact absurd h (by simp)

/-- The test of R167 answers the kind that the frame's code names. -/
theorem RecFrame.consistent_kind (f : RecFrame) (k : RecordKind) (h : RecFrame.consistent f = some k) :
    f.kind = BitVec.ofNat 8 k.code := by
  have code : f.kind.toNat = k.code := by
    unfold RecFrame.consistent at h
    split at h
    · next hk => split at h <;> cases h; exact RecordKind.ofCode_eq_some _ _ hk
    · next hk => split at h <;> cases h; exact RecordKind.ofCode_eq_some _ _ hk
    · next hk => split at h <;> cases h; exact RecordKind.ofCode_eq_some _ _ hk
    · cases h
  rw [← code, BitVec.ofNat_toNat, BitVec.setWidth_eq]

theorem RecFrame.consistent_of_maskFits (f : RecFrame) (h : RecFrame.maskFits f) : ∃ k, RecFrame.consistent f = some k := by
  rcases h with ⟨hk, hm⟩ | ⟨hk, hm⟩ | ⟨hk, hm⟩
  · exact ⟨.data, by simp [RecFrame.consistent, hk, hm, RecordKind.ofCode]⟩
  · exact ⟨.copy, by simp [RecFrame.consistent, hk, hm, RecordKind.ofCode]⟩
  · exact ⟨.void, by simp [RecFrame.consistent, hk, hm, RecordKind.ofCode]⟩

theorem RecFrame.maskFits_of_consistent (f : RecFrame) (k : RecordKind) (h : RecFrame.consistent f = some k) :
    RecFrame.maskFits f := by
  have kind := RecFrame.consistent_kind f k h
  unfold RecFrame.maskFits
  unfold RecFrame.consistent at h
  split at h
  · split at h
    · cases h
    · next hm => cases h; exact .inl ⟨kind, hm⟩
  · split at h
    · next hm => cases h; exact .inr (.inl ⟨kind, hm⟩)
    · cases h
  · split at h
    · next hm => cases h; exact .inr (.inr ⟨kind, hm⟩)
    · cases h
  · cases h

theorem RecFrame.consistent_none (f : RecFrame) (h : ¬ RecFrame.maskFits f) : RecFrame.consistent f = none := by
  cases hc : RecFrame.consistent f with
  | none => rfl
  | some k => exact absurd (RecFrame.maskFits_of_consistent f k hc) h

/-! ### Rows of Table 6-4 -/

theorem creditPending_up (s : State) (h : s.link.state = .up) : s.creditPending = { s with apply := s.apply.pended } :=
  if_pos h

/-- A frame that brings an entry to a full Apply Queue retrains the link (R100). -/
theorem recAccepted_full (f : RecFrame) (s : State) (h : 32 ≤ s.apply.queue.length) :
    State.recAccepted f s = s.retrain .creditViolation := if_pos h

theorem recAccepted_inconsistent (f : RecFrame) (s : State) (h : s.apply.queue.length < 32) (hf : ¬ RecFrame.maskFits f) :
    State.recAccepted f s = s.creditPending := by
  unfold State.recAccepted
  rw [if_neg (by omega), RecFrame.consistent_none f hf]

theorem recAccepted_examined (f : RecFrame) (s : State) (h : s.apply.queue.length < 32) (k : RecordKind)
    (hk : RecFrame.consistent f = some k) : State.recAccepted f s = s.examineRec f k := by
  unfold State.recAccepted
  rw [if_neg (by omega), hk]

theorem examineRec_notBound (f : RecFrame) (k : RecordKind) (s : State)
    (h : (s.stream f.target).cfg.direction = .send ∨ (s.stream f.target).state ≠ .bound) :
    s.examineRec f k = s.creditPending.requestNak f.target
      { target := f.origin, session := f.session, body := .refused .notBound } := if_pos h

/-- The frame's stream is a RECEIVE stream in BOUND. -/
def State.bindsTarget (s : State) (f : RecFrame) : Prop :=
  (s.stream f.target).cfg.direction = .receive ∧ (s.stream f.target).state = .bound

theorem State.bindsTarget.not_refused {s : State} {f : RecFrame} (h : s.bindsTarget f) :
    ¬((s.stream f.target).cfg.direction = .send ∨ (s.stream f.target).state ≠ .bound) := by
  rintro (e | e)
  · exact absurd (h.1.symm.trans e) (by decide)
  · exact e h.2

theorem examineRec_stranger (f : RecFrame) (k : RecordKind) (s : State) (h : s.bindsTarget f)
    (other : f.session ≠ (s.stream f.target).session ∨ f.origin ≠ (s.stream f.target).cfg.peer) :
    s.examineRec f k = s.creditPending := by
  unfold State.examineRec
  dsimp only
  rw [if_neg h.not_refused, if_pos other]

/-- The rows of Table 6-4 for a frame of the stream's session and peer. -/
theorem examineRec_own (f : RecFrame) (k : RecordKind) (s : State) (h : s.bindsTarget f)
    (session : f.session = (s.stream f.target).session) (peer : f.origin = (s.stream f.target).cfg.peer) :
    s.examineRec f k = if f.seq = (s.stream f.target).acceptSeq then
        if f.line.toNat < (s.stream f.target).cfg.lines then s.queueRec f k else s.refuseRange f
      else if seqBefore f.seq (s.stream f.target).acceptSeq then s.creditPending.modStream f.target Stream.oweAck
      else if seqAfter f.seq (s.stream f.target).acceptSeq then s.recGap f
      else s.creditPending := by
  unfold State.examineRec
  dsimp only
  rw [if_neg h.not_refused, if_neg (not_or.mpr ⟨not_not.mpr session, not_not.mpr peer⟩)]

/-- The rows of a frame of the stream's session and peer, by its seq. -/
theorem examineRec_bySeq (f : RecFrame) (k : RecordKind) (s : State) (h : s.bindsTarget f)
    (session : f.session = (s.stream f.target).session) (peer : f.origin = (s.stream f.target).cfg.peer) :
    (f.seq = (s.stream f.target).acceptSeq → f.line.toNat < (s.stream f.target).cfg.lines →
      s.examineRec f k = s.queueRec f k) ∧
    (f.seq = (s.stream f.target).acceptSeq → (s.stream f.target).cfg.lines ≤ f.line.toNat →
      s.examineRec f k = s.refuseRange f) ∧
    (seqBefore f.seq (s.stream f.target).acceptSeq = true →
      s.examineRec f k = s.creditPending.modStream f.target Stream.oweAck) ∧
    (seqAfter f.seq (s.stream f.target).acceptSeq = true → s.examineRec f k = s.recGap f) := by
  rw [examineRec_own f k s h session peer]
  refine ⟨fun e inside => ?_, fun e outside => ?_, fun before => ?_, fun after => ?_⟩
  · rw [if_pos e, if_pos inside]
  · rw [if_pos e, if_neg (by omega)]
  · rw [if_neg (ne_of_seqAfter _ _ before).symm, if_pos before]
  · have notBefore : ¬ seqBefore f.seq (s.stream f.target).acceptSeq = true := by
      rw [seqBefore, seqAfter_asymm _ _ after]
      exact Bool.false_ne_true
    rw [if_neg (ne_of_seqAfter _ _ after), if_neg notBefore, if_pos after]

/-- A gap with a NAK outstanding only drops the frame; otherwise it asks for the expected seq (R102). -/
theorem recGap_of (f : RecFrame) (s : State) (up : s.link.state = .up) :
    ((s.stream f.target).nakOutstanding = true → s.recGap f = { s with apply := s.apply.pended }) ∧
    ((s.stream f.target).nakOutstanding = false →
      s.recGap f = State.setStream { s with apply := s.apply.pended } f.target { s.stream f.target with
        nakSlot := some { target := f.origin, session := f.session, body := .gap (s.stream f.target).acceptSeq }
        nakOutstanding := true }) := by
  unfold State.recGap
  dsimp only
  rw [creditPending_up s up]
  refine ⟨fun out => if_pos out, fun none_ => ?_⟩
  rw [if_neg (by rw [State.stream]; exact fun e => Bool.false_ne_true (none_.symm.trans e)), State.requestNak,
    State.modStream_modStream]
  rfl

theorem recArrival_runs (f : RecFrame) (s : State) (h : s.accepts f.number) :
    exec (.recArrival f) s = .next (settle (State.recAccepted f s.atAcceptance)) := by
  rw [exec_recArrival f s h.1.1, frameArrives_accepted f.number _ s h]

/-- Settles O39, by the rows of Table 6-4. -/
theorem recArrival : Obligations.RecArrival := by
  intro f s h
  have run := recArrival_runs f s h
  have up : s.atAcceptance.link.state = .up := h.2.1
  have pended := creditPending_up s.atAcceptance up
  refine ⟨fun full => ⟨_, run, ?_⟩, fun room unfit => ?_, fun room fits => ?_⟩
  · rw [recAccepted_full f s.atAcceptance full]
    exact State.retrained_retrain _ .creditViolation
  · rw [run, recAccepted_inconsistent f s.atAcceptance room unfit, pended]
    rfl
  obtain ⟨k, hk⟩ := RecFrame.consistent_of_maskFits f fits
  rw [recAccepted_examined f s.atAcceptance room k hk] at run
  refine ⟨fun notBound => ?_, fun receive bound => ⟨fun other => ?_, fun session peer => ?_⟩⟩
  · rw [run, examineRec_notBound f k s.atAcceptance notBound, pended]
    rfl
  · rw [run, examineRec_stranger f k s.atAcceptance ⟨receive, bound⟩ other, pended]
    rfl
  obtain ⟨expected, outside, before, after⟩ := examineRec_bySeq f k s.atAcceptance ⟨receive, bound⟩ session peer
  obtain ⟨gapKnown, gapNew⟩ := recGap_of f s.atAcceptance up
  refine ⟨fun e inside => ⟨_, k, run, (RecFrame.consistent_kind f k hk).symm, ?_⟩, fun e out => ⟨_, run, ?_⟩,
    fun b => ?_, fun a none_ => ?_, fun a out => ?_⟩
  · rw [expected e inside]
    rfl
  · rw [outside e out, State.refuseRange, pended]
    exact State.leftBound_leaveBound _ _ _ _ _
  · rw [run, before b, pended]
    rfl
  · rw [run, after a, gapNew none_]
    rfl
  · rw [run, after a, gapKnown out]
    rfl

end Sys2Proof.Machine
end


section
/-! PROOFS. Accepted handshake frames (O43, O44). -/

namespace Sys2Proof.Machine

theorem State.stream_atAcceptance (s : State) (i : StreamId) : s.atAcceptance.stream i = s.stream i := rfl

/-! ### OPEN -/

/-- The binding of a RECEIVE stream to a session (R62, R98, R110). -/
theorem State.bind_parts (s : State) (i : StreamId) (ses : Session) :
    s.bind i ses = { s.setStream i { s.stream i with
        state := .bound, cause := .peerOpen, reason := .none, session := ses, acceptSeq := 0#16
        appliedSeq := 65535#16, nakOutstanding := false, unacked := 0, ackCount := 0, ackDelayTimer := none } with
      apply := s.apply.staled i, audit := (s.bind i ses).audit
      link := { s.link with class4 := (s.bind i ses).link.class4 }
      owed := s.owed ++ [stateEvent i .bound .peerOpen .none] } ∧
    s.responderLeft (s.bind i ses) i := by
  let v := (s.staleEntries i).modStream i (fun st =>
    { st.clearReceive with session := ses, acceptSeq := 0#16, appliedSeq := 65535#16 })
  refine ⟨?_, (v.responderLeft_refuseResponder i).congr rfl rfl rfl rfl⟩
  have moved : s.bind i ses = (v.refuseResponder i).changeState i .bound .peerOpen .none := rfl
  rw [moved, State.changeState_eq, State.refuseResponder_eq]
  simp only [v, State.staleEntries, State.modStream, State.stream, State.setStream, vector_get_set, if_true,
    Vector.set_set]
  rfl

theorem openArrival_runs (f : OpenFrame) (s : State) (h : s.accepts f.number) :
    exec (.openArrival f) s = .next (settle (State.openAccepted f s.atAcceptance)) := by
  rw [exec_openArrival f s h.1.1, frameArrives_accepted f.number _ s h]

/-- The OPEN is for a RECEIVE stream that is not in OFF (Table 3-7). -/
def State.listensFor (s : State) (f : OpenFrame) : Prop :=
  (s.stream f.target).cfg.direction = .receive ∧ (s.stream f.target).state ≠ .off

theorem openAccepted_send (f : OpenFrame) (s : State) (h : (s.stream f.target).cfg.direction = .send) :
    State.openAccepted f s = s.refuseOpen f .direction := if_pos h

theorem openAccepted_off (f : OpenFrame) (s : State) (receive : (s.stream f.target).cfg.direction = .receive)
    (off : (s.stream f.target).state = .off) : State.openAccepted f s = s.refuseOpen f .notListening := by
  unfold State.openAccepted
  dsimp only
  rw [if_neg (by rw [receive]; decide), if_pos off]

/-- The rows of Table 3-7 for a stream that listens. -/
theorem openAccepted_listening (f : OpenFrame) (s : State) (h : s.listensFor f) :
    State.openAccepted f s = if f.origin ≠ (s.stream f.target).cfg.peer then s.refuseOpen f .peer
      else if (s.stream f.target).cfg.sizeCode < f.sizeCode.toNat then s.refuseOpen f .size
      else if (s.stream f.target).state = .bound ∧ f.session = (s.stream f.target).session then s.answerOpened f
      else (s.bind f.target f.session).answerOpened f := by
  obtain ⟨receive, notOff⟩ := h
  unfold State.openAccepted
  dsimp only
  rw [if_neg (by rw [receive]; decide), if_neg notOff]

/-- Settles O43, by the rows of Table 3-7. -/
theorem openArrival : Obligations.OpenArrival := by
  intro f s h
  have run := openArrival_runs f s h
  refine ⟨fun send => ?_, fun receive off => ?_, fun receive notOff => ?_⟩
  · rw [run, openAccepted_send f s.atAcceptance send]
    rfl
  · rw [run, openAccepted_off f s.atAcceptance receive off]
    rfl
  rw [openAccepted_listening f s.atAcceptance ⟨receive, notOff⟩, State.stream_atAcceptance] at run
  refine ⟨fun other => ?_, fun peer big => ?_, fun peer fits => ⟨fun bound session => ?_, fun unbound => ?_⟩⟩
  · rw [run, if_pos other]
    rfl
  · rw [run, if_neg (not_not.mpr peer), if_pos big]
    rfl
  · rw [run, if_neg (not_not.mpr peer), if_neg (Nat.not_lt.mpr fits), if_pos ⟨bound, session⟩]
    rfl
  · rw [if_neg (not_not.mpr peer), if_neg (Nat.not_lt.mpr fits), if_neg unbound] at run
    obtain ⟨parts, left⟩ := s.atAcceptance.bind_parts f.target f.session
    refine ⟨_, run, ?_, left.congr rfl rfl rfl rfl⟩
    unfold State.answerOpened State.request3
    generalize s.atAcceptance.bind f.target f.session = v at parts ⊢
    rw [parts]
    rfl

/-! ### OPENED and REFUSE -/

theorem Stream.awaitsOpened_iff (st : Stream) (ses : Session) :
    st.awaitsOpened ses = true ↔ st.cfg.direction = .send ∧ st.state = .opening ∧ ses = st.session := by
  simp [Stream.awaitsOpened, and_assoc, eq_comm (a := ses)]

theorem openedAccepted_discarded (f : HandshakeFrame) (s : State)
    (h : (s.stream f.target).awaitsOpened f.session ≠ true) : State.openedAccepted f s = s := if_neg h

/-- OPENED takes its stream out of OPENING (R53). -/
theorem openedAccepted_awaited (f : HandshakeFrame) (s : State)
    (h : (s.stream f.target).awaitsOpened f.session = true) :
    State.openedAccepted f s = { s.setStream f.target { s.stream f.target with
        state := if (s.stream f.target).dirty = [] then .active else .resync, cause := .opened, reason := .none
        handshakeTimer := none, handshakeDue := false, retryCount := 0 } with
      owed := s.owed ++ [stateEvent f.target (if (s.stream f.target).dirty = [] then .active else .resync) .opened
        .none] } := by
  have accepted : State.openedAccepted f s = _ := if_pos h
  rw [accepted, State.changeState_eq, State.stream_modStream, State.modStream, State.setStream_setStream]
  rfl

theorem refuseReason_of_code (r : Reason) (h : r = .notListening ∨ r = .direction ∨ r = .size ∨ r = .peer) :
    refuseReason (BitVec.ofNat 8 r.code) = some r := by
  rcases h with rfl | rfl | rfl | rfl <;> rfl

theorem refuseReason_eq_none (code : Byte) (h : code = 0#8 ∨ 4 < code.toNat) : refuseReason code = none := by
  unfold refuseReason
  split
  all_goals first
    | rfl
    | next e => rcases h with rfl | h
                · exact absurd e (by decide)
                · omega

theorem refuseAccepted_discarded (f : RefuseFrame) (s : State)
    (h : (s.stream f.target).awaitsOpened f.session ≠ true ∨ refuseReason f.reason = none) :
    State.refuseAccepted f s = s := by
  unfold State.refuseAccepted
  split
  · rfl
  · next r hr => exact if_neg (h.resolve_right (by rw [hr]; exact Option.some_ne_none r))

theorem refuseAccepted_awaited (f : RefuseFrame) (s : State) (r : Reason)
    (h : (s.stream f.target).awaitsOpened f.session = true) (hr : refuseReason f.reason = some r) :
    State.refuseAccepted f s = s.toDegraded f.target .peerRefused r := by
  unfold State.refuseAccepted
  rw [hr]
  exact if_pos h

/-! ### CLOSE and CLOSED -/

theorem closeAccepted_discarded (f : HandshakeFrame) (s : State)
    (h : ¬((s.stream f.target).cfg.direction = .receive ∧ f.session = (s.stream f.target).session ∧
      ((s.stream f.target).state = .listen ∨ (s.stream f.target).state = .bound))) : State.closeAccepted f s = s := by
  unfold State.closeAccepted
  dsimp only
  split
  · next own =>
    split
    · next bound => exact absurd ⟨own.1, own.2, .inr bound⟩ h
    · next listen => exact absurd ⟨own.1, own.2, .inl listen⟩ h
    · rfl
  · rfl

theorem closeAccepted_listen (f : HandshakeFrame) (s : State) (receive : (s.stream f.target).cfg.direction = .receive)
    (session : f.session = (s.stream f.target).session) (listen : (s.stream f.target).state = .listen) :
    State.closeAccepted f s = s.answerClosed f := by
  unfold State.closeAccepted
  dsimp only
  rw [if_pos ⟨receive, session⟩, listen]

theorem closeAccepted_bound (f : HandshakeFrame) (s : State) (receive : (s.stream f.target).cfg.direction = .receive)
    (session : f.session = (s.stream f.target).session) (bound : (s.stream f.target).state = .bound) :
    State.closeAccepted f s = (s.leaveBound f.target .listen .peerClose .none).answerClosed f := by
  unfold State.closeAccepted
  dsimp only
  rw [if_pos ⟨receive, session⟩, bound]

/-- The effect of each frame of a handshake's answer is met at its acceptance. -/
theorem openedArrival_runs (f : HandshakeFrame) (s : State) (h : s.accepts f.number) :
    exec (.openedArrival f) s = .next (settle (State.openedAccepted f s.atAcceptance)) := by
  rw [exec_openedArrival f s h.1.1, frameArrives_accepted f.number _ s h]

theorem refuseArrival_runs (f : RefuseFrame) (s : State) (h : s.accepts f.number) :
    exec (.refuseArrival f) s = .next (settle (State.refuseAccepted f s.atAcceptance)) := by
  rw [exec_refuseArrival f s h.1.1, frameArrives_accepted f.number _ s h]

theorem closeArrival_runs (f : HandshakeFrame) (s : State) (h : s.accepts f.number) :
    exec (.closeArrival f) s = .next (settle (State.closeAccepted f s.atAcceptance)) := by
  rw [exec_closeArrival f s h.1.1, frameArrives_accepted f.number _ s h]

theorem closedArrival_runs (f : HandshakeFrame) (s : State) (h : s.accepts f.number) :
    exec (.closedArrival f) s = .next (settle (State.closedAccepted f s.atAcceptance)) := by
  rw [exec_closedArrival f s h.1.1, frameArrives_accepted f.number _ s h]

/-- Settles O44: what an accepted OPENED, REFUSE, CLOSE or CLOSED does to its stream. -/
theorem handshakeAnswers : Obligations.HandshakeAnswers := by
  refine ⟨⟨fun f s h => ?_, fun f s h => ?_⟩, fun f s h => ?_⟩
  · have run := openedArrival_runs f s h
    have awaits := Stream.awaitsOpened_iff (s.stream f.target) f.session
    refine ⟨fun other => ?_, fun awaited => ?_⟩
    · rw [run, openedAccepted_discarded f s.atAcceptance (mt awaits.mp other)]
    · rw [run, openedAccepted_awaited f s.atAcceptance (awaits.mpr awaited)]
      rfl
  · have run := refuseArrival_runs f s h
    have awaits := Stream.awaitsOpened_iff (s.stream f.target) f.session
    refine ⟨fun other => ?_, fun r awaited hr code => ⟨_, run, ?_⟩⟩
    · rw [run, refuseAccepted_discarded f s.atAcceptance (other.imp (mt awaits.mp) (refuseReason_eq_none f.reason))]
    · rw [refuseAccepted_awaited f s.atAcceptance r (awaits.mpr awaited) (code ▸ refuseReason_of_code r hr)]
      exact State.enteredDegraded_toDegraded _ _ _ _
  · have run := closeArrival_runs f s h
    have run' := closedArrival_runs f s h
    refine ⟨fun other => ?_, fun receive session => ⟨fun listen => ?_, fun bound => ?_⟩, fun other => ?_,
      fun send closing session sent => ⟨_, run', ?_⟩⟩
    · rw [run, closeAccepted_discarded f s.atAcceptance other]
    · rw [run, closeAccepted_listen f s.atAcceptance receive session listen]
      rfl
    · rw [closeAccepted_bound f s.atAcceptance receive session bound] at run
      have left := s.atAcceptance.leftBound_leaveBound f.target .listen .peerClose .none
      refine ⟨_, _, run, left, ?_⟩
      generalize s.atAcceptance.leaveBound f.target .listen .peerClose .none = v at left ⊢
      have class3 : v.link.class3 = s.link.class3 := (congrArg (fun w : State => w.link.class3) left.1 :)
      unfold State.answerClosed State.request3
      rw [class3]
    · have discarded : State.closedAccepted f s.atAcceptance = s.atAcceptance := if_neg other
      rw [run', discarded]
    · have accepted : State.closedAccepted f s.atAcceptance = _ := if_pos ⟨send, closing, session, sent⟩
      rw [accepted]
      exact State.enteredOff_closingToOff _ _ _ _

end Sys2Proof.Machine
end


section
/-! PROOFS. Accepted NAK frames (O42). -/

namespace Sys2Proof.Machine

/-! ### Moves of a stream, started from a state that differs elsewhere -/

/-- The end of a stream's audit depends on the Audit Unit and the Event Queue alone. -/
theorem State.auditLeft_of {s t u : State} {i : StreamId} (ha : t.audit = s.audit) (he : t.events = s.events)
    (h : t.auditLeft u i) : s.auditLeft u i := by
  obtain ⟨ended, kept⟩ := h
  have auditing : s.auditing i ↔ t.auditing i := by
    unfold State.auditing
    rw [ha]
  refine ⟨fun own => ?_, fun other => ?_⟩
  · obtain ⟨v, hv, a, e⟩ := ended (auditing.mp own)
    unfold State.jobEnded at hv
    have digest : t.localDigest = s.localDigest := by
      unfold State.localDigest
      rw [ha]
    rw [hv, ha, digest] at a
    rw [hv, ha] at e
    refine ⟨_, rfl, a, e.trans ?_⟩
    exact State.put_events_congr he _ _ _
  · obtain ⟨a, e⟩ := kept (mt auditing.mpr other)
    exact ⟨a.trans ha, e.trans he⟩

/-- The answers to a stream's held writes depend on the hold slots and the response queue alone. -/
theorem State.holdsAnswered_of {s t u : State} {i : StreamId} (hh : t.holds = s.holds) (hsp : t.sp = s.sp)
    (h : t.holdsAnswered u i) : s.holdsAnswered u i := by
  have hold (k : Fin 4) : t.hold k = s.hold k := State.hold_of_holds hh k
  have own (k : Fin 4) : t.holdsStream i k = s.holdsStream i k := by
    unfold State.holdsStream
    rw [hold]
  obtain ⟨sp, emptied, kept, ranked⟩ := h
  refine ⟨?_, fun k hk => emptied k ((own k).trans hk), fun k hk => kept k ((hold k).trans hk),
    fun k w hk => ranked k w ((hold k).trans hk)⟩
  rw [sp, hsp, State.heldSlots_of_holds hh, funext hold]

/-- The retry count and the handshake timer of a stream do not matter to its entry to DEGRADED, which clears them. -/
theorem State.enteredDegraded_of_retryCount {s u : State} {i : StreamId} {n : Nat} {m : Timer} {c : Cause} {r : Reason}
    (h : (s.setStream i { s.stream i with retryCount := n, handshakeTimer := m }).enteredDegraded u i c r) :
    s.enteredDegraded u i c r := by
  obtain ⟨own, list, dirty, others, pool, answered, owed, engine, audit, frame⟩ := h
  rw [State.stream_setStream] at own list dirty pool
  refine ⟨own, list, dirty, fun j hj => ?_, pool, State.holdsAnswered_of (by rfl) (by rfl) answered, owed,
    engine, State.auditLeft_of (by rfl) (by rfl) audit, ?_⟩
  · rw [others j hj, State.stream_setStream_ne s i j _ hj]
  · exact frame

/-- The handshake timer of a stream does not matter to its entry to OFF, which stops it. -/
theorem State.enteredOff_of_handshakeTimer {s u : State} {i : StreamId} {x : Stream} {m : Timer} {c : Cause}
    {r : Reason} (h : (s.setStream i { x with handshakeTimer := m }).enteredOff u i c r) :
    (s.setStream i x).enteredOff u i c r := by
  unfold State.enteredOff at h ⊢
  rw [State.stream_setStream] at h ⊢
  rw [h]
  simp only [State.setStream, Vector.set_set]
  rfl

/-! ### The retry limit -/

theorem retryExhausted_sending (s : State) (i : StreamId)
    (h : (s.stream i).state = .resync ∨ (s.stream i).state = .active) :
    s.retryExhausted i = s.toDegraded i .retryExhausted .none := by
  unfold State.retryExhausted
  rcases h with e | e <;> rw [e]

theorem retryExhausted_closing (s : State) (i : StreamId) (h : (s.stream i).state = .closing) :
    s.retryExhausted i = s.closingToOff i .retryExhausted .none := by
  unfold State.retryExhausted
  rw [h]

/-- One more round below the retry limit goes back (R90, R92). -/
theorem goBack_goes (s : State) (i : StreamId) (q : Option Seq)
    (h : (s.stream i).retryCount + 1 < (s.stream i).cfg.retryLimit) :
    s.goBack i q = s.setStream i { s.stream i with
      retryCount := (s.stream i).retryCount + 1, cursor := q
      retransmitTimer := s.startTimer ((s.stream i).cfg.ackTimeout * 10) } :=
  if_neg (Nat.not_le.mpr h)

theorem goBack_exhausts (s : State) (i : StreamId) (q : Option Seq)
    (h : (s.stream i).cfg.retryLimit ≤ (s.stream i).retryCount + 1) :
    s.goBack i q = (s.setStream i { s.stream i with retryCount := (s.stream i).retryCount + 1 }).retryExhausted i :=
  if_pos h

/-- At the retry limit a stream in RESYNC or ACTIVE goes to DEGRADED (R93). -/
theorem enteredDegraded_goBack (s : State) (i : StreamId) (q : Option Seq)
    (h : (s.stream i).cfg.retryLimit ≤ (s.stream i).retryCount + 1)
    (sending : (s.stream i).state = .resync ∨ (s.stream i).state = .active) :
    s.enteredDegraded (s.goBack i q) i .retryExhausted .none := by
  rw [goBack_exhausts s i q h, retryExhausted_sending _ i (by rw [State.stream_setStream]; exact sending)]
  exact State.enteredDegraded_of_retryCount (State.enteredDegraded_toDegraded _ _ _ _)

/-- At the retry limit a stream in CLOSING goes to OFF (R93). -/
theorem enteredOff_goBack (s : State) (i : StreamId) (q : Option Seq)
    (h : (s.stream i).cfg.retryLimit ≤ (s.stream i).retryCount + 1) (closing : (s.stream i).state = .closing) :
    (s.setStream i { s.stream i with retryCount := (s.stream i).retryCount + 1 }).enteredOff (s.goBack i q) i
      .retryExhausted .none := by
  rw [goBack_exhausts s i q h, retryExhausted_closing _ i (by rw [State.stream_setStream]; exact closing)]
  exact State.enteredOff_closingToOff _ _ _ _

/-! ### NAK -/

theorem Stream.current_iff (st : Stream) (ses : Session) :
    st.current ses = true ↔ st.cfg.direction = .send ∧
      (st.state = .resync ∨ st.state = .active ∨ st.state = .closing) ∧ ses = st.session := by
  simp [Stream.current, Stream.sends, and_assoc, or_assoc, eq_comm (a := ses)]

theorem inSeqRange_iff (e x y : Seq) : inSeqRange e x y = true ↔ seqAfter e x = true ∧ seqAfter e y = false := by
  simp [inSeqRange]

theorem Stream.cursorCovers_iff (st : Stream) (e : Seq) :
    st.cursorCovers e = true ↔ ∃ q, st.cursor = some q ∧ seqAfter q e = false := by
  unfold Stream.cursorCovers
  cases st.cursor <;> simp

theorem nakGap_outside (s : State) (i : StreamId) (e : Seq)
    (h : inSeqRange e (s.stream i).ackedSeq (s.stream i).sentSeq ≠ true) : s.nakGap i e = s := if_neg h

theorem nakGap_inside (s : State) (i : StreamId) (e : Seq)
    (h : inSeqRange e (s.stream i).ackedSeq (s.stream i).sentSeq = true) :
    s.nakGap i e = if (s.stream i).cursorCovers e then s.setStream i { s.stream i with
        retransmitTimer := s.startTimer ((s.stream i).cfg.ackTimeout * 10) }
      else s.goBack i (some e) := if_pos h

theorem nakAccepted_other (f : NakFrame) (s : State) (h : (s.stream f.target).current f.session ≠ true) :
    State.nakAccepted f s = s := if_neg h

/-- A current NAK, by its kind (R89, R168). -/
theorem nakAccepted_current (f : NakFrame) (s : State) (h : (s.stream f.target).current f.session = true) :
    (f.kind = 0#8 → State.nakAccepted f s = s.nakGap f.target f.value) ∧
    (1 < f.kind.toNat → State.nakAccepted f s = s) ∧
    (f.kind = 1#8 → nakReason f.value = none → State.nakAccepted f s = s) ∧
    (∀ r, f.kind = 1#8 → nakReason f.value = some r → State.nakAccepted f s = s.nakRefused f.target r) := by
  have taken : State.nakAccepted f s = if f.kind = 0#8 then s.nakGap f.target f.value
      else if f.kind = 1#8 then
        match nakReason f.value with
        | some r => s.nakRefused f.target r
        | none => s
      else s := if_pos h
  rw [taken]
  refine ⟨fun hk => if_pos hk, fun hk => ?_, fun hk hn => ?_, fun r hk hr => ?_⟩
  · have notGap : f.kind ≠ 0#8 := by rintro e; rw [e] at hk; exact absurd hk (by decide)
    have notRefused : f.kind ≠ 1#8 := by rintro e; rw [e] at hk; exact absurd hk (by decide)
    rw [if_neg notGap, if_neg notRefused]
  · rw [if_neg (by rw [hk]; decide), if_pos hk, hn]
  · rw [if_neg (by rw [hk]; decide), if_pos hk, hr]

theorem nakRefused_sending (s : State) (i : StreamId) (r : Reason)
    (h : (s.stream i).state = .resync ∨ (s.stream i).state = .active) :
    s.nakRefused i r = s.toDegraded i .peerRefused r := by
  unfold State.nakRefused
  rcases h with e | e <;> rw [e]

theorem nakRefused_closing (s : State) (i : StreamId) (r : Reason) (h : (s.stream i).state = .closing) :
    s.nakRefused i r = s.closingToOff i .peerRefused r := by
  unfold State.nakRefused
  rw [h]

theorem State.stream_credited (s : State) (n : Byte) (i : StreamId) : (s.credited n).stream i = s.stream i := rfl

theorem nakArrival_runs (f : NakFrame) (s : State) (h : s.accepts f.number) (fits : s.creditFits f.credit) :
    exec (.nakArrival f) s = .next (settle (State.nakAccepted f (s.credited f.credit))) := by
  rw [exec_nakArrival f s h.1.1, frameArrives_accepted f.number _ s h, creditReturn_fits f.credit _ s fits]

/-- A NAK that does nothing but return its credits. -/
theorem nakAccepted_ignored (f : NakFrame) (s : State)
    (h : (s.stream f.target).current f.session ≠ true ∨ 1 < f.kind.toNat ∨
      (f.kind = 0#8 ∧ inSeqRange f.value (s.stream f.target).ackedSeq (s.stream f.target).sentSeq ≠ true) ∨
      (f.kind = 1#8 ∧ nakReason f.value = none)) : State.nakAccepted f s = s := by
  by_cases current : (s.stream f.target).current f.session = true
  · obtain ⟨gap, unknown, unnamed, -⟩ := nakAccepted_current f s current
    rcases h with other | big | ⟨kind, outside⟩ | ⟨kind, reason⟩
    · exact absurd current other
    · exact unknown big
    · rw [gap kind, nakGap_outside s _ _ outside]
    · exact unnamed kind reason
  · exact nakAccepted_other f s current

/-- Settles O42, by Table 5-2. -/
theorem nakArrival : Obligations.NakArrival := by
  intro f s h
  have currentIff := Stream.current_iff (s.stream f.target) f.session
  have rangeIff := inSeqRange_iff f.value (s.stream f.target).ackedSeq (s.stream f.target).sentSeq
  have coversIff := Stream.cursorCovers_iff (s.stream f.target) f.value
  refine ⟨fun unfit => ⟨_, exec_nakArrival f s h.1.1, ?_⟩, fun fits => ?_, rfl, rfl, rfl⟩
  · rw [frameArrives_accepted f.number _ s h, creditReturn_unfit f.credit _ s unfit]
    exact State.retrained_retrain _ .badCreditReturn
  have run := nakArrival_runs f s h fits
  have sending (current : (s.stream f.target).state = .resync ∨ (s.stream f.target).state = .active ∨
      (s.stream f.target).state = .closing) (stays : (s.stream f.target).state ≠ .closing) :
      (s.stream f.target).state = .resync ∨ (s.stream f.target).state = .active :=
    current.imp_right fun e => e.resolve_right stays
  refine ⟨fun ignored => ?_, fun current kind inside => ?_, fun r current kind reason => ?_⟩
  · rw [run, nakAccepted_ignored f (s.credited f.credit) (ignored.imp (mt currentIff.mp)
      (Or.imp_right (Or.imp_left (And.imp_right (mt rangeIff.mp)))))]
  · obtain ⟨gap, -⟩ := nakAccepted_current f (s.credited f.credit) (currentIff.mpr current)
    rw [gap kind, nakGap_inside (s.credited f.credit) _ _ (rangeIff.mpr inside), State.stream_credited] at run
    refine ⟨fun covered => ?_, fun uncovered more => ?_, fun uncovered spent stays => ⟨_, run, ?_⟩,
      fun uncovered spent closing => ⟨_, run, ?_⟩⟩
    · rw [run, if_pos (coversIff.mpr covered)]
      rfl
    · rw [run, if_neg (mt coversIff.mp uncovered), goBack_goes (s.credited f.credit) _ _ more]
      rfl
    · rw [if_neg (mt coversIff.mp uncovered)]
      exact enteredDegraded_goBack (s.credited f.credit) _ _ spent (sending current.2.1 stays)
    · rw [if_neg (mt coversIff.mp uncovered)]
      exact enteredOff_goBack (s.credited f.credit) _ _ spent closing
  · obtain ⟨-, -, -, refused⟩ := nakAccepted_current f (s.credited f.credit) (currentIff.mpr current)
    rw [refused r kind reason] at run
    refine ⟨fun stays => ⟨_, run, ?_⟩, fun closing => ⟨_, run, ?_⟩⟩
    · rw [nakRefused_sending (s.credited f.credit) _ r (sending current.2.1 stays)]
      exact State.enteredDegraded_toDegraded _ _ _ _
    · rw [nakRefused_closing (s.credited f.credit) _ r closing]
      exact State.enteredOff_closingToOff _ _ _ _

end Sys2Proof.Machine
end


section
/-! PROOFS. Accepted DGQ and DGR frames (O45). -/

namespace Sys2Proof.Machine

/-! ### DGQ -/

/-- An answer into the immediate slot (R148). -/
theorem answerNow_eq (s : State) (f : DgqFrame) (st : DgrStatus) (r : Reason) :
    s.answerNow f st r = { s with
      audit := { s.audit with immediateSlot := some (DgrAnswer.mk f.target f.origin f.tag st r 0#32) }
      link := { s.link with class4 := if .dgrImmediate ∈ s.link.class4 then s.link.class4
        else s.link.class4 ++ [.dgrImmediate] } } := by
  unfold State.answerNow
  rw [State.request4_eq]

theorem dgrImmediate_mem_answerNow (s : State) (f : DgqFrame) (st : DgrStatus) (r : Reason) :
    .dgrImmediate ∈ (s.answerNow f st r).link.class4 := by
  rw [answerNow_eq]
  dsimp only
  split
  · assumption
  · exact List.mem_append_right _ (List.mem_singleton_self _)

/-- The DGQ's stream is not bound to the frame's session (Table 9-4, row 1). -/
def State.dgqUnbound (s : State) (f : DgqFrame) : Prop :=
  (s.stream f.target).cfg.direction = .send ∨ (s.stream f.target).state ≠ .bound ∨
    f.session ≠ (s.stream f.target).session

/-- The DGQ's range does not lie in the extent (Table 9-4, row 3). -/
def State.dgqOutside (s : State) (f : DgqFrame) : Prop :=
  f.lineCount = 0#21 ∨ (s.stream f.target).cfg.lines < f.firstLine.toNat + f.lineCount.toNat

/-- The rows of Table 9-4 that answer before the marks are compared. -/
theorem dgqAccepted_answered (f : DgqFrame) (s : State) :
    (s.dgqUnbound f → State.dgqAccepted f s = s.answerNow f .refused .notBound) ∧
    (¬ s.dgqUnbound f → f.origin ≠ (s.stream f.target).cfg.peer →
      State.dgqAccepted f s = s.answerNow f .refused .peer) ∧
    (¬ s.dgqUnbound f → f.origin = (s.stream f.target).cfg.peer → s.dgqOutside f →
      State.dgqAccepted f s = s.answerNow f .refused .range) ∧
    (¬ s.dgqUnbound f → f.origin = (s.stream f.target).cfg.peer → ¬ s.dgqOutside f →
      s.audit.responder.state ≠ .idle → State.dgqAccepted f s = s.answerNow f .busy .none) := by
  unfold State.dgqAccepted State.dgqUnbound State.dgqOutside
  dsimp only
  refine ⟨fun unbound => if_pos unbound, fun bound other => ?_, fun bound peer outside => ?_,
    fun bound peer inside busy => ?_⟩
  · rw [if_neg bound, if_pos other]
  · rw [if_neg bound, if_neg (not_not.mpr peer), if_pos outside]
  · rw [if_neg bound, if_neg (not_not.mpr peer), if_neg inside, if_pos busy]

/-- The rows of Table 9-4 that compare the stream's applied seq with the mark. -/
theorem dgqAccepted_compared (f : DgqFrame) (s : State) (bound : ¬ s.dgqUnbound f)
    (peer : f.origin = (s.stream f.target).cfg.peer) (inside : ¬ s.dgqOutside f)
    (idle : s.audit.responder.state = .idle) :
    State.dgqAccepted f s = if seqAfter (s.stream f.target).appliedSeq f.mark then s.answerNow f .disturbed .late
      else if (s.stream f.target).appliedSeq = f.mark then (s.armResponder f).responderReads
      else s.armResponder f := by
  unfold State.dgqUnbound at bound
  unfold State.dgqOutside at inside
  unfold State.dgqAccepted
  dsimp only
  rw [if_neg bound, if_neg (not_not.mpr peer), if_neg inside, if_neg (not_not.mpr idle)]

/-- The entries that disturb a responder job at its entry to READING (R146). -/
theorem disturbingEntry_iff (s : State) (e : ApplyEntry) :
    s.disturbingEntry e = true ↔ e.stream = s.audit.responder.stream ∧
      seqAfter e.seq s.audit.responder.mark = true ∧ e.progress ≠ .waiting ∧
      (s.stream s.audit.responder.stream).cfg.extentBase.toNat + 64 * s.audit.responder.firstLine ≤
        ((s.stream e.stream).cfg.lineAddr e.line.toNat).toNat ∧
      ((s.stream e.stream).cfg.lineAddr e.line.toNat).toNat <
        (s.stream s.audit.responder.stream).cfg.extentBase.toNat +
          64 * (s.audit.responder.firstLine + s.audit.responder.lineCount) := by
  unfold State.disturbingEntry State.inResponderRange
  cases e.progress <;> simp [and_assoc]

theorem dgqArrival_runs (f : DgqFrame) (s : State) (h : s.accepts f.number) :
    exec (.dgqArrival f) s = .next (settle (State.dgqAccepted f s.atAcceptance)) := by
  rw [exec_dgqArrival f s h.1.1, frameArrives_accepted f.number _ s h]

/-- An immediate answer at the acceptance of a DGQ leaves the streams and the events as they are. -/
theorem dgqArrival_answers (f : DgqFrame) (s : State) (h : s.accepts f.number) (st : DgrStatus) (r : Reason)
    (answer : State.dgqAccepted f s.atAcceptance = s.atAcceptance.answerNow f st r) :
    ∃ u, exec (.dgqArrival f) s = .next (settle u) ∧ .dgrImmediate ∈ u.link.class4 ∧ u.streams = s.streams ∧
      u.events = s.events ∧
      u.audit = { s.audit with immediateSlot := some (DgrAnswer.mk f.target f.origin f.tag st r 0#32) } := by
  refine ⟨_, dgqArrival_runs f s h, ?_⟩
  rw [answer]
  refine ⟨dgrImmediate_mem_answerNow _ f st r, ?_⟩
  rw [answerNow_eq]
  exact ⟨rfl, rfl, rfl⟩

/-! ### DGR -/

theorem Reason.ofCode_eq_some (n : Nat) (r : Reason) (h : Reason.ofCode n = some r) : n = r.code := by
  unfold Reason.ofCode at h
  split at h <;> cases h <;> rfl

theorem dgrVerdict_refused (r : Reason) : 4 ≤ r.code → r.code ≤ 8 →
    dgrVerdict 2#8 (BitVec.ofNat 8 r.code) = some (.refused, r) := by
  cases r <;> decide

/-- The forms of a DGR that R168 takes. -/
def dgrNamed (st r : Byte) : Prop :=
  (st = 0#8 ∧ r = 0#8) ∨ (st = 3#8 ∧ r = 0#8) ∨ (st = 1#8 ∧ (r = 11#8 ∨ r = 12#8)) ∨
    (st = 2#8 ∧ 4 ≤ r.toNat ∧ r.toNat ≤ 8)

theorem dgrVerdict_of_named (st r : Byte) (h : dgrNamed st r) : dgrVerdict st r ≠ none := by
  rcases h with ⟨rfl, rfl⟩ | ⟨rfl, rfl⟩ | ⟨rfl, rfl | rfl⟩ | ⟨rfl, low, high⟩
  · decide
  · decide
  · decide
  · decide
  · have code : r = 4#8 ∨ r = 5#8 ∨ r = 6#8 ∨ r = 7#8 ∨ r = 8#8 := by bv_omega
    rcases code with rfl | rfl | rfl | rfl | rfl <;> decide

/-- A byte is the constant of its value. -/
theorem byte_eq_of_toNat (b : Byte) (n : Nat) (h : b.toNat = n) : b = BitVec.ofNat 8 n := by
  rw [← h, BitVec.ofNat_toNat, BitVec.setWidth_eq]

theorem dgrNamed_of_verdict (st r : Byte) (h : dgrVerdict st r ≠ none) : dgrNamed st r := by
  unfold dgrVerdict at h
  split at h
  · next hst hr => exact .inl ⟨byte_eq_of_toNat _ _ hst, byte_eq_of_toNat _ _ (Reason.ofCode_eq_some _ _ hr)⟩
  · next hst hr => exact .inr (.inl ⟨byte_eq_of_toNat _ _ hst, byte_eq_of_toNat _ _ (Reason.ofCode_eq_some _ _ hr)⟩)
  · next hst hr =>
    exact .inr (.inr (.inl ⟨byte_eq_of_toNat _ _ hst, .inl (byte_eq_of_toNat _ _ (Reason.ofCode_eq_some _ _ hr))⟩))
  · next hst hr =>
    exact .inr (.inr (.inl ⟨byte_eq_of_toNat _ _ hst, .inr (byte_eq_of_toNat _ _ (Reason.ofCode_eq_some _ _ hr))⟩))
  iterate 5
    · next hst hr =>
      have code := Reason.ofCode_eq_some _ _ hr
      exact .inr (.inr (.inr ⟨byte_eq_of_toNat _ _ hst, by rw [code]; decide, by rw [code]; decide⟩))
  · exact absurd rfl h

theorem dgrVerdict_eq_none_iff (st r : Byte) : dgrVerdict st r = none ↔ ¬ dgrNamed st r :=
  ⟨fun h named => dgrVerdict_of_named st r named h, fun h => by
    by_contra verdict
    exact h (dgrNamed_of_verdict st r verdict)⟩

theorem dgrCurrent_iff (s : State) (f : DgrFrame) :
    s.dgrCurrent f = true ↔ s.audit.initiator.state = .waiting ∧ f.tag = s.audit.initiator.tag ∧
      f.target = s.audit.initiator.stream := by
  simp [State.dgrCurrent, and_assoc]

theorem dgrAccepted_discarded (f : DgrFrame) (s : State)
    (h : s.dgrCurrent f ≠ true ∨ dgrVerdict f.status f.reason = none) : State.dgrAccepted f s = s := by
  unfold State.dgrAccepted
  split
  · rfl
  · next hv => exact if_neg (h.resolve_right (by rw [hv]; exact Option.some_ne_none _))

/-- A current DGR with its verdict ends the job (Table 9-3). -/
theorem dgrAccepted_current (f : DgrFrame) (s : State) (st : DgrStatus) (r : Reason) (h : s.dgrCurrent f = true)
    (hv : dgrVerdict f.status f.reason = some (st, r)) : State.dgrAccepted f s = s.dgrOutcome st r f.digest := by
  unfold State.dgrAccepted
  rw [hv]
  exact if_pos h

theorem localDigest_waiting (s : State) (h : s.audit.initiator.state = .waiting) :
    s.localDigest = some (~~~s.audit.initiator.crc) := if_pos h

theorem dgrArrival_runs (f : DgrFrame) (s : State) (h : s.accepts f.number) :
    exec (.dgrArrival f) s = .next (settle (State.dgrAccepted f s.atAcceptance)) := by
  rw [exec_dgrArrival f s h.1.1, frameArrives_accepted f.number _ s h]

/-- The outcome of a current DGR, as the end of the job (Table 9-3). -/
theorem dgrArrival_ends (f : DgrFrame) (s : State) (h : s.accepts f.number) (current : s.dgrCurrent f = true)
    (st : DgrStatus) (r : Reason) (hv : dgrVerdict f.status f.reason = some (st, r)) (o : AuditOutcome) (r' : Reason)
    (theirs : Option Word32)
    (outcome : s.atAcceptance.dgrOutcome st r f.digest =
      s.atAcceptance.endJob o r' s.atAcceptance.audit.initiator.digest? theirs) :
    ∃ u, exec (.dgrArrival f) s = .next (settle u) ∧
      s.atAcceptance.jobEnded u o r' (some (~~~s.audit.initiator.crc)) theirs := by
  refine ⟨_, dgrArrival_runs f s h, ?_⟩
  rw [dgrAccepted_current f s.atAcceptance st r current hv, outcome, State.digest_eq,
    localDigest_waiting s.atAcceptance ((dgrCurrent_iff s f).mp current).1]
  exact State.jobEnded_endJob _ _ _ _ _

/-- Settles O45, by Tables 9-3 and 9-4. -/
theorem digestArrivals : Obligations.DigestArrivals := by
  refine ⟨fun f s h => ?_, fun f s h => ?_⟩
  · have run := dgqArrival_runs f s h
    obtain ⟨unbound, stranger, outside, busy⟩ := dgqAccepted_answered f s.atAcceptance
    refine ⟨fun hu => dgqArrival_answers f s h _ _ (unbound hu),
      fun hu hp => dgqArrival_answers f s h _ _ (stranger hu hp),
      fun hu hp hr => dgqArrival_answers f s h _ _ (outside hu hp hr),
      fun hu hp hr hb => dgqArrival_answers f s h _ _ (busy hu hp hr hb), fun hu hp hr hb => ?_⟩
    have compared := dgqAccepted_compared f s.atAcceptance hu hp hr (not_not.mp hb)
    rw [State.stream_atAcceptance] at compared
    refine ⟨fun late => dgqArrival_answers f s h _ _ (by rw [compared, if_pos late]), fun reached => ?_,
      fun other notAfter => ?_⟩
    · have notAfter : ¬ seqAfter (s.stream f.target).appliedSeq f.mark = true := by
        rw [reached, seqAfter_self]
        exact Bool.false_ne_true
      rw [run, compared, if_neg notAfter, if_pos reached]
      refine ⟨s.apply.queue.any (s.atAcceptance.armResponder f).disturbingEntry, rfl, ?_⟩
      rw [List.any_eq_true]
      refine exists_congr fun e => and_congr_right fun _ => (disturbingEntry_iff _ e).trans ?_
      refine and_congr_right fun (own : e.stream = f.target) => ?_
      have stream : ((s.atAcceptance.armResponder f).stream e.stream).cfg = (s.stream f.target).cfg := by rw [own]; rfl
      rw [stream]
      exact Iff.rfl
    · rw [run, compared, if_neg (by rw [notAfter]; exact Bool.false_ne_true), if_neg other]
      rfl
  · have run := dgrArrival_runs f s h
    have currentIff := dgrCurrent_iff s f
    refine ⟨fun other => ?_, fun unnamed => ?_, fun current => ?_, dgrVerdict_eq_none_iff⟩
    · rw [run, dgrAccepted_discarded f s.atAcceptance (.inl (mt currentIff.mp other))]
    · rw [run, dgrAccepted_discarded f s.atAcceptance (.inr unnamed)]
    have is := currentIff.mpr current
    have mine : s.atAcceptance.audit.initiator.digest? = some (~~~s.audit.initiator.crc) :=
      localDigest_waiting s current.1
    refine ⟨fun hs hr same => ?_, fun hs hr differs => ?_, fun hs hr => ?_, fun hs hr => ?_, fun r hs low high hr => ?_,
      fun hs hr => ?_⟩
    · refine dgrArrival_ends f s h is .ok .none (by rw [hs, hr]; rfl) _ _ _ ?_
      unfold State.dgrOutcome
      rw [mine, same]
      simp only [if_true]
    · refine dgrArrival_ends f s h is .ok .none (by rw [hs, hr]; rfl) _ _ _ ?_
      unfold State.dgrOutcome
      rw [mine]
      simp only [Option.some.injEq, if_neg differs.symm]
    · exact dgrArrival_ends f s h is .disturbed .late (by rw [hs, hr]; rfl) _ _ _ rfl
    · exact dgrArrival_ends f s h is .disturbed .apply (by rw [hs, hr]; rfl) _ _ _ rfl
    · exact dgrArrival_ends f s h is .refused r (by rw [hs, hr]; exact dgrVerdict_refused r low high) _ _ _ rfl
    · exact dgrArrival_ends f s h is .busy .none (by rw [hs, hr]; rfl) _ _ _ rfl

end Sys2Proof.Machine
end


section
/-! PROOFS. Performing, recording and marking a write, each as an equation of the state: the layer that the releases
of held writes, the heads and the copy reads share. -/

namespace Sys2Proof.Machine

/-! ### Units that the Record Pool does not read -/

/-- The state with other hold slots, another Resync Engine, Audit Unit and Memory Port. -/
def State.withUnits (s : State) (h : Vector (Option HeldWrite) 4) (e : ResyncEngine) (a : AuditUnit)
    (m : MemoryPort) : State := { s with holds := h, engine := e, audit := a, mp := m }

theorem State.appended_withUnits (s : State) (h : Vector (Option HeldWrite) 4) (e : ResyncEngine) (a : AuditUnit)
    (m : MemoryPort) (i : StreamId) (rest : List Nat) (y : Record) :
    (s.withUnits h e a m).appended i rest y = (s.appended i rest y).withUnits h e a m := by
  have events := State.put_events_congr (s := s) (t := s.withUnits h e a m) rfl .poolLow none
    (BitVec.ofNat 20 rest.length)
  unfold State.appended
  dsimp only
  rw [events]
  rfl

theorem State.recordedIn_withUnits (s : State) (h : Vector (Option HeldWrite) 4) (e : ResyncEngine) (a : AuditUnit)
    (m : MemoryPort) (i : StreamId) (slot : Nat) (rest : List Nat) (line : LineIndex) (p : Payload) :
    (s.withUnits h e a m).recordedIn i slot rest line p = (s.recordedIn i slot rest line p).withUnits h e a m :=
  State.appended_withUnits s h e a m i rest _

theorem State.emptyHold_withUnits (s : State) (k : Fin 4) :
    s.emptyHold k = s.withUnits (s.emptyHold k).holds s.engine s.audit s.mp := by
  rw [State.emptyHold_eq]
  rfl

/-! ### Performing -/

/-- A performing event depends on the engine, the Audit Unit and the streams' configuration alone (R19). -/
theorem State.perform_of {s t : State} (engine : t.engine = s.engine) (audit : t.audit = s.audit)
    (cfg : ∀ j, (t.stream j).cfg = (s.stream j).cfg) (line : Addr) :
    t.perform line = { t with engine := (s.perform line).engine, audit := (s.perform line).audit } := by
  have span : t.inAuditSpan line = s.inAuditSpan line := by
    unfold State.inAuditSpan
    dsimp only
    rw [audit, cfg]
  unfold State.perform
  rw [span, audit, engine]

theorem State.forward_write (s : State) (r : SpRequest) (u : WriteUse) (h : r.isWrite = true) :
    s.forward r u = { s.perform (lineOf r.addr) with mp := s.mp.joined r u } := if_pos h

theorem State.forward_read (s : State) (r : SpRequest) (u : WriteUse) (h : r.isWrite = false) :
    s.forward r u = { s with mp := s.mp.joined r u } := if_neg (by rw [h]; exact Bool.false_ne_true)

/-- A write forwarded, its performing read off a state with the same engine, Audit Unit and configuration. -/
theorem State.forward_of {s t : State} (engine : t.engine = s.engine) (audit : t.audit = s.audit)
    (cfg : ∀ j, (t.stream j).cfg = (s.stream j).cfg) {r : SpRequest} (write : r.isWrite = true) (u : WriteUse) :
    t.forward r u = { t with
      engine := (s.perform (lineOf r.addr)).engine, audit := (s.perform (lineOf r.addr)).audit
      mp := t.mp.joined r u } := by
  rw [t.forward_write r u write, State.perform_of engine audit cfg]

theorem HeldWrite.request_isWrite (h : HeldWrite) : h.request.isWrite = true := rfl

/-! ### Recording -/

theorem State.poolFell_eq (s : State) :
    s.poolFell = { s with
      pool := { s.pool with
        minFree := min s.pool.minFree s.freeCount
        lowArmed := s.pool.lowArmed && !decide (s.freeCount < s.global.poolLowThreshold) }
      events := if s.pool.lowArmed = true ∧ s.freeCount < s.global.poolLowThreshold then
          (s.put .poolLow none (BitVec.ofNat 20 s.freeCount)).events
        else s.events } := by
  unfold State.poolFell
  dsimp only
  by_cases low : s.pool.lowArmed = true ∧ s.freeCount < s.global.poolLowThreshold
  · rw [if_pos low, if_pos low, State.put_eq]
    rw [State.put_events_congr (s := s) (t := { s with pool := { s.pool with minFree := min s.pool.minFree s.freeCount } })
      rfl]
    simp [low.1, low.2]
  · rw [if_neg low, if_neg low]
    have armed : (s.pool.lowArmed && !decide (s.freeCount < s.global.poolLowThreshold)) = s.pool.lowArmed := by
      cases hl : s.pool.lowArmed with
      | false => rfl
      | true => simp [hl] at low; simp [low]
    rw [armed]

theorem Stream.append_eq (st : Stream) (r : Record) (h : r.seq = st.nextSeq) :
    st.append r = { st with
      sendList := st.sendList.map (fun x : Record => { x with deadline := none }) ++ [r]
      nextSeq := st.nextSeq + 1, cursor := some (st.cursor.getD st.nextSeq) } := by
  unfold Stream.append
  cases st.cursor with
  | none => rw [h]; rfl
  | some q => rfl

/-- A record created in a slot (R21, R22, R42, R43). -/
theorem State.create_eq (s : State) (i : StreamId) (slot : Nat) (rest : List Nat) (r : Record)
    (h : r.seq = (s.stream i).nextSeq) : s.create i slot rest r = s.appended i rest { r with slot := slot } := by
  let v := State.modStream { s with pool := { s.pool with freeList := rest } } i (·.append { r with slot := slot })
  have events := State.put_events_congr (s := s) (t := v) rfl .poolLow none (BitVec.ofNat 20 rest.length)
  have made : s.create i slot rest r = v.poolFell := rfl
  have count : v.freeCount = rest.length := rfl
  have stream : (s.stream i).append { r with slot := slot } = _ := Stream.append_eq (s.stream i) _ h
  rw [made, State.poolFell_eq, count, events]
  unfold State.appended
  dsimp only
  rw [← stream]
  simp only [decide_eq_true_eq]
  rfl

/-! ### Offering -/

theorem State.offer_merged (s : State) (i : StreamId) (line : LineIndex) (p : Payload) (y : Record)
    (h : (s.stream i).mergeTarget line = some y) : s.offer i line p = (.merged y.slot, s.mergedInto i y.slot p) := by
  unfold State.offer
  rw [h]
  rfl

theorem State.freeList_of_slotAllowed (s : State) (i : StreamId) (h : s.slotAllowed i = true) : s.pool.freeList ≠ [] := by
  intro e
  unfold State.slotAllowed State.freeCount at h
  rw [e] at h
  simp at h

theorem State.offer_recorded (s : State) (i : StreamId) (line : LineIndex) (p : Payload) (slot : Nat) (rest : List Nat)
    (none_ : (s.stream i).mergeTarget line = none) (allowed : s.slotAllowed i = true)
    (free : s.pool.freeList = slot :: rest) :
    s.offer i line p = (.recorded slot, s.recordedIn i slot rest line p) := by
  unfold State.offer
  rw [none_]
  dsimp only
  rw [if_pos allowed, free]
  dsimp only
  rw [State.create_eq s i slot rest _ rfl]
  unfold State.recordedIn State.combineDeadline Stream.newRecord
  rfl

theorem State.offer_refused (s : State) (i : StreamId) (line : LineIndex) (p : Payload)
    (none_ : (s.stream i).mergeTarget line = none) (refused : s.slotAllowed i = false) :
    s.offer i line p = (.refused, s) := by
  unfold State.offer
  rw [none_, refused]
  rfl

/-! ### Marking -/

/-- A stream in RESYNC or ACTIVE. -/
def Stream.mirrors (st : Stream) : Prop := st.state = .resync ∨ st.state = .active

theorem State.mark_resync (s : State) (i : StreamId) (g : Nat) (h : (s.stream i).state = .resync) :
    s.mark i g = s.setStream i { s.stream i with dirty := insertGranule g (s.stream i).dirty } := by
  unfold State.mark
  rw [h]
  rfl

/-- The end of a stream's audit reads the Audit Unit and the Event Queue alone. -/
theorem State.abortAudit_of {s t : State} (audit : t.audit = s.audit) (events : t.events = s.events) (i : StreamId) :
    t.abortAudit i = { t with audit := (s.abortAudit i).audit, events := (s.abortAudit i).events } := by
  by_cases own : s.auditing i
  · have own' : t.auditing i := by
      unfold State.auditing
      rw [audit]
      exact own
    have aborts : t.abortAudit i = t.endJob .aborted .stream t.audit.initiator.digest? none := if_pos own'
    have aborts' : s.abortAudit i = s.endJob .aborted .stream s.audit.initiator.digest? none := if_pos own
    have ended := t.jobEnded_endJob .aborted .stream t.audit.initiator.digest? none
    have ended' := s.jobEnded_endJob .aborted .stream s.audit.initiator.digest? none
    unfold State.jobEnded at ended ended'
    rw [aborts, aborts', ended, ended', audit, State.put_events_congr events]
  · have other : ¬ t.auditing i := by
      unfold State.auditing
      rw [audit]
      exact own
    have stays : t.abortAudit i = t := if_neg other
    have stays' : s.abortAudit i = s := if_neg own
    rw [stays, stays', ← audit, ← events]

theorem State.mark_active (s : State) (i : StreamId) (g : Nat) (h : (s.stream i).state = .active) :
    s.mark i g = { (s.abortAudit i).setStream i { s.stream i with
        dirty := insertGranule g (s.stream i).dirty, state := .resync, cause := .dirty, reason := .none } with
      owed := s.owed ++ [stateEvent i .resync .dirty .none] } := by
  let v := s.modStream i (·.markDirty g)
  have marked : s.mark i g = (v.abortAudit i).changeState i .resync .dirty .none := by
    unfold State.mark
    rw [h]
  rw [marked, State.changeState_eq, State.abortAudit_of (s := s) (t := v) rfl rfl, State.abortAudit_eq s]
  simp only [v, State.modStream, State.stream, State.setStream, vector_get_set, if_true, Vector.set_set]
  rfl

end Sys2Proof.Machine
end


section
/-! PROOFS. The release of held writes (O41): a tracked write's marking and performing, one release, and the releases
of a stream in taking order. -/

namespace Sys2Proof.Machine

/-! ### Tracked writes -/

theorem State.perform_engine_of {s t : State} (h : t.engine = s.engine) (line : Addr) :
    (t.perform line).engine = (s.perform line).engine := by
  unfold State.perform
  rw [h]

theorem State.inAuditSpan_not_reading (s : State) (line : Addr) (h : s.audit.initiator.state ≠ .reading) :
    s.inAuditSpan line = false := by
  simp [State.inAuditSpan, h]

theorem State.perform_audit_not_reading (s : State) (line : Addr) (h : s.audit.initiator.state ≠ .reading) :
    (s.perform line).audit = s.audit := by
  unfold State.perform
  rw [s.inAuditSpan_not_reading line h, Bool.or_false]

theorem State.abortAudit_idle (s : State) (i : StreamId) (h : s.auditing i) :
    (s.abortAudit i).audit.initiator.state = .idle := by
  have aborts : s.abortAudit i = s.endJob .aborted .stream s.audit.initiator.digest? none := if_pos h
  have ended := s.jobEnded_endJob .aborted .stream s.audit.initiator.digest? none
  unfold State.jobEnded at ended
  rw [aborts, ended]

theorem State.cfg_setStream (s : State) (i : StreamId) (x : Stream) (h : x.cfg = (s.stream i).cfg) (j : StreamId) :
    ((s.setStream i x).stream j).cfg = (s.stream j).cfg := by
  by_cases hj : j = i
  · rw [hj, State.stream_setStream, h]
  · rw [State.stream_setStream_ne s i j _ hj]

theorem State.cfg_mergedInto (s : State) (i : StreamId) (slot : Nat) (p : Payload) (j : StreamId) :
    ((s.mergedInto i slot p).stream j).cfg = (s.stream j).cfg := by
  refine State.cfg_setStream s i _ ?_ j
  rfl

theorem State.cfg_recordedIn (s : State) (i : StreamId) (slot : Nat) (rest : List Nat) (line : LineIndex) (p : Payload)
    (j : StreamId) : ((s.recordedIn i slot rest line p).stream j).cfg = (s.stream j).cfg := by
  refine State.cfg_setStream s i _ ?_ j
  rfl

/-- The line of a tracked write, within its stream's extent. -/
def State.lineIn (s : State) (i : StreamId) (a : Addr) : LineIndex := (s.stream i).cfg.lineIndex a

/-- The granule of a line of a stream. -/
def State.granuleIn (s : State) (i : StreamId) (a : Addr) : Nat := (s.stream i).cfg.granuleOf (s.lineIn i a)

theorem State.forwardTracked_resync (s : State) (r : SpRequest) (i : StreamId) (write : r.isWrite = true)
    (h : (s.stream i).state = .resync) :
    s.forwardTracked r i = { s.setStream i { s.stream i with
        dirty := insertGranule (s.granuleIn i r.addr) (s.stream i).dirty } with
      mp := s.mp.joined r (.tracked i (s.lineIn i r.addr))
      engine := (s.perform (lineOf r.addr)).engine, audit := (s.perform (lineOf r.addr)).audit } := by
  have forwarded : s.forwardTracked r i =
    (s.mark i (s.granuleIn i r.addr)).forward r (.tracked i (s.lineIn i r.addr)) := rfl
  rw [forwarded, State.mark_resync s i _ h]
  exact State.forward_of (s := s) (by rfl) (by rfl) (State.cfg_setStream s i _ (by rfl)) write _

theorem State.forwardTracked_active (s : State) (r : SpRequest) (i : StreamId) (write : r.isWrite = true)
    (h : (s.stream i).state = .active) :
    s.forwardTracked r i = { s.setStream i { s.stream i with
        dirty := insertGranule (s.granuleIn i r.addr) (s.stream i).dirty
        state := .resync, cause := .dirty, reason := .none } with
      mp := s.mp.joined r (.tracked i (s.lineIn i r.addr)), owed := s.owed ++ [stateEvent i .resync .dirty .none]
      engine := (s.perform (lineOf r.addr)).engine
      audit := ((s.abortAudit i).perform (lineOf r.addr)).audit, events := (s.abortAudit i).events } := by
  have forwarded : s.forwardTracked r i =
    (s.mark i (s.granuleIn i r.addr)).forward r (.tracked i (s.lineIn i r.addr)) := rfl
  have cfg (j : StreamId) : (((s.abortAudit i).setStream i { s.stream i with
      dirty := insertGranule (s.granuleIn i r.addr) (s.stream i).dirty
      state := .resync, cause := .dirty, reason := .none }).stream j).cfg = ((s.abortAudit i).stream j).cfg := by
    refine State.cfg_setStream _ i _ ?_ j
    rw [State.abortAudit_eq]
    rfl
  rw [forwarded, State.mark_active s i _ h]
  refine (State.forward_of (s := s.abortAudit i) ?_ ?_ ?_ write _).trans ?_
  · rfl
  · rfl
  · exact cfg
  rw [State.perform_engine_of (s := s) (t := s.abortAudit i) (by simp)]
  generalize ((s.abortAudit i).perform (lineOf r.addr)).audit = a
  have same := s.abortAudit_eq i
  generalize s.abortAudit i = v at same ⊢
  rw [same]
  rfl

/-- A tracked write in RESYNC or ACTIVE marks its granule and is performed (R19, R54, R125, R144). -/
theorem State.markedAndPerformed_forwardTracked (s : State) (r : SpRequest) (i : StreamId) (write : r.isWrite = true)
    (mirrors : (s.stream i).mirrors) : s.markedAndPerformed (s.forwardTracked r i) i r.addr := by
  rcases mirrors with h | h
  · rw [s.forwardTracked_resync r i write h]
    exact ⟨fun _ => ⟨s.stream_setStream i _, rfl, rfl, rfl⟩, fun active => absurd (h.symm.trans active) (by decide),
      fun j hj => s.stream_setStream_ne i j _ hj, rfl⟩
  · rw [s.forwardTracked_active r i write h]
    refine ⟨fun resync => absurd (h.symm.trans resync) (by decide), fun _ =>
      ⟨s.stream_setStream i _, rfl, fun own => ?_, fun other => ?_⟩, fun j hj => s.stream_setStream_ne i j _ hj, rfl⟩
    · refine (s.auditLeft_abortAudit i).congr ?_ rfl
      refine (s.abortAudit i).perform_audit_not_reading _ ?_
      rw [s.abortAudit_idle i own]
      decide
    · have stays : s.abortAudit i = s := if_neg other
      dsimp only
      rw [stays]
      exact ⟨rfl, rfl⟩

theorem State.forwardTracked_frame_of_mirrors (s : State) (r : SpRequest) (i : StreamId) (write : r.isWrite = true)
    (h : (s.stream i).mirrors) :
    s.forwardTracked r i = { s with
      mp := s.mp.joined r (.tracked i (s.lineIn i r.addr)), streams := (s.forwardTracked r i).streams
      owed := (s.forwardTracked r i).owed, engine := (s.forwardTracked r i).engine
      audit := (s.forwardTracked r i).audit, events := (s.forwardTracked r i).events } := by
  rcases h with h | h
  · rw [s.forwardTracked_resync r i write h]
    rfl
  · rw [s.forwardTracked_active r i write h]
    rfl

/-- Marking and performing read the streams, the engine, the Audit Unit, the owed entries and the events alone. -/
theorem State.markedAndPerformed_of {s t u : State} {i : StreamId} {a : Addr} (streams : t.streams = s.streams)
    (engine : t.engine = s.engine) (audit : t.audit = s.audit) (events : t.events = s.events) (owed : t.owed = s.owed)
    (h : t.markedAndPerformed u i a) : s.markedAndPerformed u i a := by
  have stream (j : StreamId) : t.stream j = s.stream j := State.stream_of_streams s t streams j
  have performed := State.perform_of engine audit (fun j => by rw [stream j]) (lineOf a)
  have auditing : t.auditing i ↔ s.auditing i := by
    unfold State.auditing
    rw [audit]
  unfold State.markedAndPerformed at h ⊢
  rw [performed, stream, owed, events, auditing] at h
  obtain ⟨resync, active, others, moved⟩ := h
  refine ⟨resync, fun hs => ?_, fun j hj => (others j hj).trans (stream j), moved⟩
  obtain ⟨own, owes, left, stays⟩ := active hs
  exact ⟨own, owes, fun hi => State.auditLeft_of audit events (left hi), stays⟩

/-! ### One release -/

theorem State.markReached_iff (st : Stream) (m : Option Seq) :
    st.markReached m = true ↔ m = none ∨ ∃ q, m = some q ∧ seqAtOrAfter st.ackedSeq q = true := by
  unfold Stream.markReached
  cases m <;> simp

theorem State.releasable_iff (s : State) (h : HeldWrite) : s.releasable h = true ↔ s.releaseHolds h := by
  unfold State.releasable State.releaseHolds
  rw [Bool.and_eq_true, Bool.and_eq_true, beq_iff_eq, beq_iff_eq, State.markReached_iff, and_assoc]

/-- The state after a slot has emptied, its write not yet offered. -/
theorem State.release_of (s : State) (k : Fin 4) (h : HeldWrite) (hk : s.hold k = some h) :
    s.release k = match (s.emptyHold k).offer h.stream (s.lineIn h.stream h.addr) h.request.payload with
      | (.merged slot, v) => v.forward h.request (.bound h.stream slot)
      | (.recorded slot, v) => v.forward h.request (.bound h.stream slot)
      | (.refused, v) => (v.markLine h.stream (s.lineIn h.stream h.addr)).forward h.request
          (.tracked h.stream (s.lineIn h.stream h.addr)) := by
  unfold State.release
  rw [hk]
  rfl

theorem State.stream_emptyHold (s : State) (k : Fin 4) (i : StreamId) : (s.emptyHold k).stream i = s.stream i := by
  rw [State.emptyHold_eq]
  rfl

theorem State.release_merged (s : State) (k : Fin 4) (h : HeldWrite) (hk : s.hold k = some h) (y : Record)
    (target : (s.stream h.stream).mergeTarget (s.lineIn h.stream h.addr) = some y) :
    s.release k = { (s.perform (lineOf h.addr)).mergedInto h.stream y.slot h.request.payload with
      mp := s.mp.joined h.request (.bound h.stream y.slot), holds := (s.emptyHold k).holds } := by
  let v := s.emptyHold k
  have stream : v.stream h.stream = s.stream h.stream := s.stream_emptyHold k h.stream
  have units : v = s.withUnits v.holds s.engine s.audit s.mp := s.emptyHold_withUnits k
  rw [s.release_of k h hk, State.offer_merged v _ _ _ y (by rw [stream]; exact target)]
  dsimp only
  have same : v.holds = (s.emptyHold k).holds := rfl
  generalize v = w at units same ⊢
  rw [units, ← same]
  exact State.forward_of (s := s) (t := (s.withUnits w.holds s.engine s.audit s.mp).mergedInto h.stream y.slot
    h.request.payload) rfl rfl (State.cfg_mergedInto s h.stream y.slot _) h.request_isWrite _

theorem State.release_recorded (s : State) (k : Fin 4) (h : HeldWrite) (hk : s.hold k = some h) (slot : Nat)
    (rest : List Nat) (target : (s.stream h.stream).mergeTarget (s.lineIn h.stream h.addr) = none)
    (allowed : s.slotAllowed h.stream = true) (free : s.pool.freeList = slot :: rest) :
    s.release k = { (s.perform (lineOf h.addr)).recordedIn h.stream slot rest (s.lineIn h.stream h.addr)
        h.request.payload with
      mp := s.mp.joined h.request (.bound h.stream slot), holds := (s.emptyHold k).holds } := by
  let v := s.emptyHold k
  have stream (j : StreamId) : v.stream j = s.stream j := s.stream_emptyHold k j
  have units : v = s.withUnits v.holds s.engine s.audit s.mp := s.emptyHold_withUnits k
  have pool : v.pool = s.pool := by rw [units]; rfl
  have allowed' : v.slotAllowed h.stream = true := by
    rw [State.slotAllowed_congr (s := s) (by rw [pool]) (fun j => by rw [stream j]; exact ⟨rfl, rfl, rfl⟩)]
    exact allowed
  rw [s.release_of k h hk, State.offer_recorded v _ _ _ slot rest (by rw [stream]; exact target) allowed'
    (by rw [pool]; exact free)]
  dsimp only
  have same : v.holds = (s.emptyHold k).holds := rfl
  generalize v = w at units same ⊢
  have performed : s.perform (lineOf h.addr) = s.withUnits s.holds (s.perform (lineOf h.addr)).engine
    (s.perform (lineOf h.addr)).audit s.mp := rfl
  rw [units, ← same, State.recordedIn_withUnits, performed, State.recordedIn_withUnits]
  exact State.forward_of (s := s) (t := (s.recordedIn h.stream slot rest (s.lineIn h.stream h.addr)
    h.request.payload).withUnits w.holds s.engine s.audit s.mp) rfl rfl
    (State.cfg_recordedIn s h.stream slot rest _ _) h.request_isWrite _

theorem State.release_refused (s : State) (k : Fin 4) (h : HeldWrite) (hk : s.hold k = some h)
    (target : (s.stream h.stream).mergeTarget (s.lineIn h.stream h.addr) = none)
    (refused : s.slotAllowed h.stream = false) :
    s.release k = (s.emptyHold k).forwardTracked h.request h.stream := by
  let v := s.emptyHold k
  have stream (j : StreamId) : v.stream j = s.stream j := s.stream_emptyHold k j
  have pool : v.pool = s.pool := by
    have units : v = _ := s.emptyHold_withUnits k
    rw [units]
    rfl
  have refused' : v.slotAllowed h.stream = false := by
    rw [State.slotAllowed_congr (s := s) (by rw [pool]) (fun j => by rw [stream j]; exact ⟨rfl, rfl, rfl⟩)]
    exact refused
  have line : v.lineIn h.stream h.addr = s.lineIn h.stream h.addr := by
    unfold State.lineIn
    rw [stream]
  rw [s.release_of k h hk, State.offer_refused v _ _ _ (by rw [stream]; exact target) refused', ← line]
  rfl

/-- One release (R118). -/
theorem State.released_release (s : State) (k : Fin 4) (h : HeldWrite) (hk : s.hold k = some h)
    (active : (s.stream h.stream).state = .active) : s.released (s.release k) k h := by
  have holds : (s.release k).holds = (s.emptyHold k).holds := by
    cases target : (s.stream h.stream).mergeTarget (s.lineIn h.stream h.addr) with
    | some y => rw [s.release_merged k h hk y target]
    | none =>
      cases allowed : s.slotAllowed h.stream with
      | false => rw [s.release_refused k h hk target allowed]; simp [State.forwardTracked]
      | true =>
        obtain ⟨slot, rest, free⟩ := List.exists_cons_of_ne_nil (s.freeList_of_slotAllowed _ allowed)
        rw [s.release_recorded k h hk slot rest target allowed free]
  have hold (j : Fin 4) : (s.release k).hold j = (s.emptyHold k).hold j := State.hold_of_holds holds j
  refine ⟨(hold k).trans (s.hold_emptyHold_self k h hk), fun j hj => (hold j).trans (s.hold_emptyHold_ne k j h hk hj),
    fun y target => ?_, fun slot rest target allowed free => ?_, fun target refused => ?_⟩
  · rw [s.release_merged k h hk y target]
  · rw [s.release_recorded k h hk slot rest target allowed free]
    rfl
  · have units := s.emptyHold_withUnits k
    have mirrors : ((s.emptyHold k).stream h.stream).mirrors := by
      rw [State.stream_emptyHold]
      exact .inr active
    have marked := (s.emptyHold k).markedAndPerformed_forwardTracked h.request h.stream h.request_isWrite mirrors
    have frame := (s.emptyHold k).forwardTracked_frame_of_mirrors h.request h.stream h.request_isWrite mirrors
    rw [← s.release_refused k h hk target refused] at marked frame
    rw [← holds] at units
    generalize s.emptyHold k = v at units marked frame
    subst units
    exact ⟨State.markedAndPerformed_of (by rfl) (by rfl) (by rfl) (by rfl) (by rfl) marked, frame⟩

/-! ### The releases of a list of slots -/

/-- Held writes tested one after another (R119). -/
theorem State.releasedInOrder_testHolds (l : List (Fin 4)) (s : State) : s.releasedInOrder l (s.testHolds l) := by
  induction l generalizing s with
  | nil => exact rfl
  | cons k rest ih =>
    unfold State.releasedInOrder State.testHolds
    cases hk : s.hold k with
    | none => exact ih s
    | some h =>
      dsimp only
      refine ⟨fun holds => ?_, fun kept => ?_⟩
      · rw [if_pos ((s.releasable_iff h).mpr holds)]
        exact ⟨s.release k, s.released_release k h hk holds.1, ih _⟩
      · rw [if_neg (mt (s.releasable_iff h).mp kept)]
        exact ih s

theorem State.mirrors_setStream {s : State} {i j : StreamId} {x : Stream} (h : (s.stream i).mirrors)
    (hx : x.mirrors) : ((s.setStream j x).stream i).mirrors := by
  by_cases hij : i = j
  · rw [hij, State.stream_setStream]
    exact hx
  · rw [State.stream_setStream_ne s j i x hij]
    exact h

/-- A release leaves every stream in RESYNC or ACTIVE in one of the two. -/
theorem State.mirrors_release {s : State} {k : Fin 4} {w : HeldWrite} (hk : s.hold k = some w)
    (active : (s.stream w.stream).state = .active) {i : StreamId} (h : (s.stream i).mirrors) :
    ((s.release k).stream i).mirrors := by
  cases target : (s.stream w.stream).mergeTarget (s.lineIn w.stream w.addr) with
  | some y =>
    rw [s.release_merged k w hk y target]
    exact State.mirrors_setStream (j := w.stream) h (.inr active)
  | none =>
    cases allowed : s.slotAllowed w.stream with
    | true =>
      obtain ⟨slot, rest, free⟩ := List.exists_cons_of_ne_nil (s.freeList_of_slotAllowed _ allowed)
      rw [s.release_recorded k w hk slot rest target allowed free]
      exact State.mirrors_setStream (j := w.stream) h (.inr active)
    | false =>
      have streams (j : StreamId) := s.stream_emptyHold k j
      rw [s.release_refused k w hk target allowed, State.forwardTracked_active _ _ _ w.request_isWrite
        (by rw [streams]; exact active)]
      refine State.mirrors_setStream (s := s.emptyHold k) (j := w.stream) ?_ (.inl rfl)
      rw [streams]
      exact h

theorem State.mirrors_testHolds (l : List (Fin 4)) {s : State} {i : StreamId} (h : (s.stream i).mirrors) :
    ((s.testHolds l).stream i).mirrors := by
  induction l generalizing s with
  | nil => exact h
  | cons k rest ih =>
    unfold State.testHolds
    split
    · next w hk =>
      split
      · next holds => exact ih (State.mirrors_release hk ((s.releasable_iff w).mp holds).1 h)
      · exact ih h
    · exact ih h

end Sys2Proof.Machine
end


section
/-! PROOFS. Accepted ACK frames (O40) and the held writes that they release (O41). -/

namespace Sys2Proof.Machine

/-! ### The draining of CLOSING -/

/-- The stream has come to the end of its CLOSING (R59). -/
def Stream.drains (st : Stream) : Prop := st.state = .closing ∧ st.sendList = []

theorem State.drained_of (s : State) (i : StreamId) (h : (s.stream i).drains) :
    s.drained i = s.setStream i { s.stream i with retryCount := 0, handshakeDue := true } :=
  if_pos ⟨h.1, congrArg List.length h.2⟩

theorem State.drained_not (s : State) (i : StreamId) (h : ¬ (s.stream i).drains) : s.drained i = s :=
  if_neg fun both => h ⟨both.1, List.eq_nil_of_length_eq_zero both.2⟩

/-! ### The freeing of acknowledged records -/

/-- The stream after an ACK that makes progress, its held writes not yet tested (R88). -/
def Stream.ackedTo (st : Stream) (q : Seq) (timer : Timer) : Stream :=
  let n := (q - st.ackedSeq).toNat
  { st with
    sendList := st.sendList.drop n, ackedSeq := q, retryCount := 0
    cursor := match st.cursor with
      | none => none
      | some c => if (st.sendList.take n).any (fun r => r.seq == c && !r.discard) then
          (st.sendList.drop n).head?.map Record.seq else some c
    retransmitTimer := if ∃ r ∈ st.sendList.drop n, r.state = .sent then timer else none }

theorem Stream.acked_eq (st : Stream) (q : Seq) (timer : Timer) :
    st.acked q (q - st.ackedSeq).toNat timer = st.ackedTo q timer := by
  unfold Stream.acked Stream.ackedTo Stream.cursorAfterFree Record.atSeq
  have sent : (st.sendList.drop (q - st.ackedSeq).toNat).any Record.isSent = true ↔
      ∃ r ∈ st.sendList.drop (q - st.ackedSeq).toNat, r.state = .sent := by
    simp [Record.isSent]
  simp only [sent] <;> cases st.cursor <;> rfl

/-- The slots of the records that an ACK frees. -/
def Stream.ackedSlots (st : Stream) (q : Seq) : List Nat := (st.sendList.take (q - st.ackedSeq).toNat).map Record.slot

/-- The state with a stream's records freed up to a seq. -/
def State.freedTo (s : State) (i : StreamId) (q : Seq) : State :=
  { s.setStream i ((s.stream i).ackedTo q (s.startTimer ((s.stream i).cfg.ackTimeout * 10))) with
    pool := s.pool.freed s.global.poolLowThreshold ((s.stream i).ackedSlots q) }

theorem State.ackProgress_eq (s : State) (i : StreamId) (q : Seq) :
    s.ackProgress i q = ((s.freedTo i q).testReleases i).drained i := by
  unfold State.ackProgress State.freedTo
  dsimp only
  rw [State.freeSlots_eq, State.modStream, Stream.acked_eq]
  rfl

theorem State.stream_freedTo (s : State) (i : StreamId) (q : Seq) :
    (s.freedTo i q).stream i = (s.stream i).ackedTo q (s.startTimer ((s.stream i).cfg.ackTimeout * 10)) :=
  s.stream_setStream i _

theorem State.testReleases_of_none (s : State) (i : StreamId) (h : ∀ k w, s.hold k = some w → w.stream ≠ i) :
    s.testReleases i = s := by
  have nothing : s.heldSlots i = [] := by
    refine List.eq_nil_iff_forall_not_mem.mpr fun k hk => ?_
    obtain ⟨w, hw, own⟩ := (s.mem_heldSlots i k).mp hk
    exact h k w hw own
  rw [State.testReleases, nothing]
  rfl

theorem ackAccepted_idle (f : AckFrame) (s : State)
    (h : ¬((s.stream f.target).current f.session = true ∧
      inSeqRange f.seq (s.stream f.target).ackedSeq (s.stream f.target).sentSeq = true)) :
    State.ackAccepted f s = s := if_neg h

theorem ackAccepted_progress (f : AckFrame) (s : State) (current : (s.stream f.target).current f.session = true)
    (inside : inSeqRange f.seq (s.stream f.target).ackedSeq (s.stream f.target).sentSeq = true) :
    State.ackAccepted f s = s.ackProgress f.target f.seq := if_pos ⟨current, inside⟩

theorem ackArrival_runs (f : AckFrame) (s : State) (h : s.accepts f.number) (fits : s.creditFits f.credit) :
    exec (.ackArrival f) s = .next (settle (State.ackAccepted f (s.credited f.credit))) := by
  rw [exec_ackArrival f s h.1.1, frameArrives_accepted f.number _ s h, creditReturn_fits f.credit _ s fits]

/-- Settles O40, by R87 and R88. -/
theorem ackArrival : Obligations.AckArrival := by
  intro f s h
  have currentIff := Stream.current_iff (s.stream f.target) f.session
  have rangeIff := inSeqRange_iff f.seq (s.stream f.target).ackedSeq (s.stream f.target).sentSeq
  refine ⟨fun unfit => ⟨_, exec_ackArrival f s h.1.1, ?_⟩, fun fits idle => ?_, fun fits current inside held => ?_⟩
  · rw [frameArrives_accepted f.number _ s h, creditReturn_unfit f.credit _ s unfit]
    exact State.retrained_retrain _ .badCreditReturn
  · rw [ackArrival_runs f s h fits, ackAccepted_idle f (s.credited f.credit)]
    rintro ⟨c, r⟩
    exact idle ⟨currentIff.mp c, rangeIff.mp r⟩
  · rw [ackArrival_runs f s h fits,
      ackAccepted_progress f (s.credited f.credit) (currentIff.mpr current) (rangeIff.mpr inside),
      State.ackProgress_eq,
      State.testReleases_of_none ((s.credited f.credit).freedTo f.target f.seq) _ held]
    refine next_settle ?_
    by_cases drains : ((s.credited f.credit).freedTo f.target f.seq |>.stream f.target).drains
    · rw [State.drained_of _ _ drains]
      rw [State.stream_freedTo] at drains ⊢
      have due : decide ((s.stream f.target).state = .closing ∧
        (s.stream f.target).sendList.drop (f.seq - (s.stream f.target).ackedSeq).toNat = []) = true :=
        decide_eq_true drains
      rw [due, Bool.or_true]
      unfold State.freedTo
      simp only [State.setStream, Vector.set_set]
      rfl
    · rw [State.drained_not _ _ drains]
      rw [State.stream_freedTo] at drains
      have due : decide ((s.stream f.target).state = .closing ∧
        (s.stream f.target).sendList.drop (f.seq - (s.stream f.target).ackedSeq).toNat = []) = false :=
        decide_eq_false drains
      rw [due, Bool.or_false]
      rfl

/-! ### The release of a single held write -/

theorem State.heldSlots_single (s : State) (i : StreamId) (k : Fin 4) (h : HeldWrite) (hk : s.hold k = some h)
    (only : ∀ j, j ≠ k → s.hold j = none) (own : h.stream = i) : s.heldSlots i = [k] := by
  refine List.perm_singleton.mp ((List.perm_ext_iff_of_nodup (s.heldSlots_nodup i) (List.nodup_singleton k)).mpr
    fun j => ?_)
  rw [s.mem_heldSlots, List.mem_singleton]
  refine ⟨fun ⟨w, hw, _⟩ => ?_, fun e => ⟨h, e ▸ hk, own⟩⟩
  by_contra ne
  rw [only j ne] at hw
  cases hw

theorem State.testHolds_single (s : State) (k : Fin 4) (h : HeldWrite) (hk : s.hold k = some h) :
    (s.releaseHolds h → s.testHolds [k] = s.release k) ∧ (¬ s.releaseHolds h → s.testHolds [k] = s) := by
  have tested : s.testHolds [k] = if s.releasable h then s.release k else s := by
    unfold State.testHolds
    rw [hk]
    rfl
  rw [tested]
  exact ⟨fun holds => if_pos ((s.releasable_iff h).mpr holds), fun kept => if_neg (mt (s.releasable_iff h).mp kept)⟩

theorem Pool.freed_freeList (p : Pool) (n : Nat) (slots : List Nat) :
    (p.freed n slots).freeList = p.freeList ++ slots := by
  unfold Pool.freed
  split
  · next e => rw [e, List.append_nil]
  · rfl

/-- The outside demand of a stream does not read the stream itself (R36). -/
theorem State.outsideDemand_setStream (s : State) (i : StreamId) (x : Stream) :
    (s.setStream i x).outsideDemand i = s.outsideDemand i := by
  unfold State.outsideDemand
  refine congrArg List.sum (List.map_congr_left fun j _ => ?_)
  by_cases hj : j = i
  · rw [if_pos (.inl hj), if_pos (.inl hj)]
  · rw [State.stream_setStream_ne s i j x hj]

theorem State.outsideDemand_freedTo (s : State) (i : StreamId) (q : Seq) :
    (s.freedTo i q).outsideDemand i = s.outsideDemand i := s.outsideDemand_setStream i _

/-- A stream with an empty send list is allowed a slot within its limit (Table 2-3). -/
theorem State.slotAllowed_of_empty (s : State) (i : StreamId) (empty : (s.stream i).sendList = [])
    (free : 1 ≤ s.freeCount) (limit : 0 < (s.stream i).cfg.limit)
    (room : 0 < (s.stream i).cfg.reserve ∨ s.outsideDemand i < s.freeCount) : s.slotAllowed i = true := by
  unfold State.slotAllowed Stream.usage
  rw [empty]
  simp only [List.length_nil, List.all_nil, Bool.and_true, Bool.and_eq_true, Bool.or_eq_true, decide_eq_true_eq]
  exact ⟨⟨free, limit⟩, room⟩

theorem Stream.mergeTarget_of_empty (st : Stream) (line : LineIndex) (empty : st.sendList = []) :
    st.mergeTarget line = none := by
  unfold Stream.mergeTarget Stream.youngest?
  rw [empty]
  rfl

theorem State.stream_recordedIn (s : State) (i : StreamId) (slot : Nat) (rest : List Nat) (line : LineIndex)
    (p : Payload) :
    (s.recordedIn i slot rest line p).stream i = { s.stream i with
      sendList := (s.stream i).sendList.map (fun x : Record => { x with deadline := none }) ++
        [{ slot := slot, stream := i, session := (s.stream i).session, seq := (s.stream i).nextSeq, kind := .data
           line := line, payload := p, state := .captured, pendingWrites := 1, discard := false
           deadline := if (s.stream i).cfg.combineHold = 0 then none
             else some (s.events.time + BitVec.ofNat 32 (s.stream i).cfg.combineHold) }]
      nextSeq := (s.stream i).nextSeq + 1
      cursor := some ((s.stream i).cursor.getD (s.stream i).nextSeq) } := s.stream_setStream i _

theorem ackArrival_progresses (f : AckFrame) (s : State) (h : s.accepts f.number) (fits : s.creditFits f.credit)
    (send : (s.stream f.target).cfg.direction = .send) (mirrors : (s.stream f.target).mirrors)
    (session : f.session = (s.stream f.target).session)
    (after : seqAfter f.seq (s.stream f.target).ackedSeq = true)
    (sent : seqAfter f.seq (s.stream f.target).sentSeq = false) :
    exec (.ackArrival f) s =
      .next (settle (((s.credited f.credit).freedTo f.target f.seq).testReleases f.target)) := by
  have current : (s.stream f.target).current f.session = true :=
    (Stream.current_iff _ _).mpr ⟨send, mirrors.imp_right .inl, session⟩
  have inside := (inSeqRange_iff f.seq (s.stream f.target).ackedSeq (s.stream f.target).sentSeq).mpr ⟨after, sent⟩
  have mirrors' : (((s.credited f.credit).freedTo f.target f.seq).stream f.target).mirrors := by
    rw [State.stream_freedTo]
    exact mirrors
  have stays := State.mirrors_testHolds (((s.credited f.credit).freedTo f.target f.seq).heldSlots f.target) mirrors'
  rw [ackArrival_runs f s h fits, ackAccepted_progress f (s.credited f.credit) current inside, State.ackProgress_eq,
    State.drained_not]
  rintro ⟨closing, -⟩
  rcases stays with e | e <;> exact absurd (closing.symm.trans e) (by decide)

/-- The state at an ACK's progress with every record of its stream freed allows a slot (R88, Table 2-3). -/
theorem State.slotAllowed_freedTo (s : State) (i : StreamId) (q : Seq)
    (all : (s.stream i).sendList.length ≤ (q - (s.stream i).ackedSeq).toNat) (some_ : (s.stream i).sendList ≠ [])
    (limit : 0 < (s.stream i).cfg.limit)
    (room : 0 < (s.stream i).cfg.reserve ∨ s.outsideDemand i < s.freeCount + (s.stream i).sendList.length) :
    (s.freedTo i q).slotAllowed i = true := by
  have count : (s.freedTo i q).freeCount = s.freeCount + (s.stream i).sendList.length := by
    have freed : (s.freedTo i q).freeCount = (s.pool.freeList ++ (s.stream i).ackedSlots q).length :=
      congrArg List.length (Pool.freed_freeList _ _ _)
    rw [freed, List.length_append, Stream.ackedSlots, List.length_map, List.take_of_length_le all]
    rfl
  have positive : 0 < (s.stream i).sendList.length := List.length_pos_iff.mpr some_
  refine State.slotAllowed_of_empty _ i ?_ (by omega) ?_ ?_
  · rw [State.stream_freedTo]
    exact List.drop_eq_nil_of_le all
  · rw [State.stream_freedTo]
    exact limit
  · rw [State.stream_freedTo, State.outsideDemand_freedTo, count]
    exact room

/-- Settles O41: the releases at an ACK, one held write alone, all of a stream, and their order. -/
theorem heldWriteReleased : Obligations.HeldWriteReleased := by
  refine ⟨fun f k h s accepted fits => ?_, fun f s accepted fits => ?_, fun i s =>
    ⟨s.mem_heldSlots i, s.heldSlots_nodup i, s.heldSlots_inOrder i⟩⟩
  · intro st n line slots send session after sent hk only own
    let v := (s.credited f.credit).freedTo f.target f.seq
    have stream : v.stream h.stream = st.ackedTo f.seq (s.startTimer (st.cfg.ackTimeout * 10)) := by
      rw [own]
      exact (s.credited f.credit).stream_freedTo f.target f.seq
    have run (mirrors : st.mirrors) : exec (.ackArrival f) s = .next (settle (v.testHolds [k])) := by
      rw [ackArrival_progresses f s accepted fits send mirrors session after sent, State.testReleases,
        v.heldSlots_single f.target k h hk only own]
    obtain ⟨released, kept⟩ := v.testHolds_single k h hk
    rw [← own]
    refine ⟨fun active held mark all some_ limit room => ?_, fun stays => ?_⟩
    · have holds : v.releaseHolds h := by
        refine ⟨?_, ?_, mark.imp_right fun ⟨q, hq, reached⟩ => ⟨q, hq, ?_⟩⟩
        · rw [stream]
          exact active
        · rw [stream]
          exact held.symm
        · rw [stream]
          exact reached
      rw [released holds] at run
      have allowed : v.slotAllowed h.stream = true := by
        rw [own] at room ⊢
        exact State.slotAllowed_freedTo _ _ _ all some_ limit room
      have empty : (v.stream h.stream).sendList = [] := by
        rw [stream]
        exact List.drop_eq_nil_of_le all
      have freeList : v.pool.freeList = s.pool.freeList ++ slots := Pool.freed_freeList _ _ _
      obtain ⟨slot, rest, free⟩ := List.exists_cons_of_ne_nil (v.freeList_of_slotAllowed _ allowed)
      have recorded := v.release_recorded k h hk slot rest (Stream.mergeTarget_of_empty _ _ empty) allowed free
      have recordedStream := (v.perform (lineOf h.addr)).stream_recordedIn h.stream slot rest
        (v.lineIn h.stream h.addr) h.request.payload
      have same : (v.release k).stream h.stream = ((v.perform (lineOf h.addr)).recordedIn h.stream slot rest
          (v.lineIn h.stream h.addr) h.request.payload).stream h.stream := by
        rw [recorded]
        rfl
      have performed : (v.perform (lineOf h.addr)).stream h.stream = v.stream h.stream := rfl
      rw [← same, performed, empty, stream] at recordedStream
      refine ⟨_, slot, run (.inr active), ?_, ?_, ?_, ?_, ?_, ?_, ?_, ?_⟩
      · rw [recorded]
        exact v.hold_emptyHold_self k h hk
      · rw [← freeList, free]
        rfl
      · rw [← freeList, free, recorded]
        rfl
      · rw [recorded]
        rfl
      · rw [recordedStream]
        unfold State.lineIn
        rw [stream]
        rfl
      · rw [recordedStream]
        exact active
      · rw [recordedStream]
        rfl
      · rw [recorded]
        rfl
    · have mirrors : st.mirrors := stays.imp_right And.left
      have notReleased : ¬ v.releaseHolds h := by
        rintro ⟨active, -, mark⟩
        rw [stream] at active mark
        rcases stays with resync | ⟨-, q, hq, before⟩
        · exact absurd (resync.symm.trans active) (by decide)
        · rcases mark with e | ⟨p, hp, reached⟩
          · rw [hq] at e
            cases e
          · rw [hq] at hp
            cases hp
            exact Bool.false_ne_true (before.symm.trans reached)
      rw [kept notReleased] at run
      refine ⟨v, run mirrors, hk, rfl, ?_, ?_⟩
      · rw [stream]
        rfl
      · rw [stream]
        rfl
  · intro st b n send mirrors session after sent
    refine ⟨_, ackArrival_progresses f s accepted fits send mirrors session after sent, ?_⟩
    have slots : s.heldSlots f.target = ((s.credited f.credit).freedTo f.target f.seq).heldSlots f.target :=
      (State.heldSlots_of_holds (s := s) (t := (s.credited f.credit).freedTo f.target f.seq) rfl _).symm
    rw [slots]
    exact State.releasedInOrder_testHolds _ _

end Sys2Proof.Machine
end


section
/-! PROOFS. The expiries of the link's, the streams' and the Audit Unit's timers (O46, O47). -/

namespace Sys2Proof.Machine

/-! ### The link's timers -/

theorem linkTimer_runs {l : LinkState} {x : Timer} (state : LinkState) (hl : l = state) (hx : x ≠ none) :
    (l == state && x.isSome) = true := by
  rw [hl, Option.isSome_iff_ne_none.mpr hx]
  cases state <;> rfl

/-- The state at the training timer's expiry, the streams not yet acted on (R71). -/
def State.trainingDown (s : State) : State :=
  { s with
    link := { s.link with
      state := .down, trainingTimer := none, helloTimer := none, helloRequest := false
      downTimer := s.startTimer (s.global.downRetry * 1000) }
    events := (s.put .linkDown none 1#20).events }

theorem State.trainingFailed_eq (s : State) : s.trainingFailed = s.trainingDown.streamsDown := by
  let v := { s with link := { s.link with
    state := .down, trainingTimer := none, helloTimer := none, helloRequest := false
    downTimer := s.startTimer (s.global.downRetry * 1000) } }
  have events := State.put_events_congr (s := s) (t := v) rfl .linkDown none 1#20
  change (v.put .linkDown none 1#20).streamsDown = _
  rw [State.put_eq, events]
  rfl

/-- Settles O46: the link's timers at their expiries. -/
theorem linkTimers : Obligations.LinkTimers := by
  intro s h
  refine ⟨fun hs ht => ?_, fun hs ht => ⟨_, exec_trainingTimerExpiry s h (linkTimer_runs _ hs ht), ?_⟩, fun hs ht => ?_,
    fun hs ht => ?_, fun hs ht => ⟨_, exec_silenceTimerExpiry s h (linkTimer_runs _ hs ht), ?_⟩⟩
  · exact exec_helloTimerExpiry s h (linkTimer_runs _ hs ht)
  · rw [State.trainingFailed_eq]
    exact State.streamsWentDown_streamsDown _
  · exact exec_downRetryExpiry s h (linkTimer_runs _ hs ht)
  · exact exec_keepaliveTimerExpiry s h (linkTimer_runs _ hs ht)
  · exact State.retrained_retrain s .silence

/-! ### The streams' and the Audit Unit's timers -/

theorem handshakeExpired_again (s : State) (i : StreamId)
    (h : (s.stream i).retryCount + 1 < (s.stream i).cfg.retryLimit) :
    s.handshakeExpired i = s.setStream i { s.stream i with
      retryCount := (s.stream i).retryCount + 1, handshakeTimer := none, handshakeDue := true } := by
  have again : s.handshakeExpired i = _ := if_neg (Nat.not_le.mpr h)
  rw [again, State.modStream_modStream]
  rfl

/-- At the retry limit an unanswered handshake takes its stream out of OPENING or CLOSING (R52). -/
theorem handshakeExpired_limit (s : State) (i : StreamId)
    (h : (s.stream i).cfg.retryLimit ≤ (s.stream i).retryCount + 1) :
    ((s.stream i).state = .opening → s.handshakeExpired i = (s.setStream i { s.stream i with
      retryCount := (s.stream i).retryCount + 1, handshakeTimer := none }).toDegraded i .openTimeout .none) ∧
    ((s.stream i).state = .closing → s.handshakeExpired i = (s.setStream i { s.stream i with
      retryCount := (s.stream i).retryCount + 1, handshakeTimer := none }).closingToOff i .closeTimeout .none) := by
  obtain ⟨v, hv⟩ : ∃ v, v = s.setStream i { s.stream i with
      retryCount := (s.stream i).retryCount + 1, handshakeTimer := none } := ⟨_, rfl⟩
  have counted : s.modStream i (fun st => { st with
      retryCount := (s.stream i).retryCount + 1, handshakeTimer := none }) = v := hv.symm
  unfold State.handshakeExpired
  dsimp only
  rw [if_pos h, counted, ← hv]
  exact ⟨fun hs => by rw [hs], fun hs => by rw [hs]⟩

/-- Settles O47: the timers of streams and of the audit jobs at their expiries. -/
theorem streamAndAuditTimers : Obligations.StreamAndAuditTimers := by
  refine ⟨fun i s h => ⟨fun ht => ?_, fun ht => ?_, fun ht => ?_⟩, fun s h => ⟨fun hs ht => ?_, fun hs ht => ?_⟩⟩
  · have run := exec_handshakeTimerExpiry i s h (Option.isSome_iff_ne_none.mpr ht)
    refine ⟨fun again => ?_, fun limit opening => ⟨_, run, ?_⟩, fun limit closing => ⟨_, run, ?_⟩⟩
    · rw [run, handshakeExpired_again s i again]
    · rw [(handshakeExpired_limit s i limit).1 opening]
      exact State.enteredDegraded_of_retryCount (State.enteredDegraded_toDegraded _ _ _ _)
    · rw [(handshakeExpired_limit s i limit).2 closing]
      exact State.enteredOff_of_handshakeTimer (State.enteredOff_closingToOff _ _ _ _)
  · have run := exec_retransmitTimerExpiry i s h (Option.isSome_iff_ne_none.mpr ht)
    refine ⟨fun again => ?_, fun limit sending => ⟨_, run, enteredDegraded_goBack s i _ limit sending⟩,
      fun limit closing => ⟨_, run, enteredOff_goBack s i _ limit closing⟩⟩
    rw [run, State.retransmitExpired, goBack_goes s i _ again]
  · exact exec_ackDelayTimerExpiry i s h (Option.isSome_iff_ne_none.mpr ht)
  · have runs : (s.audit.initiator.state == .waiting && s.audit.initiator.timer.isSome) = true := by
      rw [hs, Option.isSome_iff_ne_none.mpr ht]
      rfl
    refine ⟨_, exec_responseTimerExpiry s h runs, ?_⟩
    rw [State.responseExpired, State.digest_eq, localDigest_waiting s hs]
    exact s.jobEnded_endJob _ _ _ _
  · have runs : (s.audit.responder.state == .armed && s.audit.responder.timer.isSome) = true := by
      rw [hs, Option.isSome_iff_ne_none.mpr ht]
      rfl
    exact ⟨_, exec_responderTimerExpiry s h runs, s.responderEnded_endResponder _ _ _⟩

end Sys2Proof.Machine
end


section
/-! PROOFS. The completion and the retirement of Apply Queue entries (O29). -/

namespace Sys2Proof.Machine

theorem Status.outcome_eq (st : Status) : Status.outcome st = if st = .okay then .okay else .error := by
  cases st <;> rfl

/-- The Apply Engine with its head gone and a credit more pending return in UP (R105, R106). -/
def State.headRetired (s : State) : ApplyEngine :=
  { queue := s.apply.queue.tail
    pendingCredits := if s.link.state = .up then min 32 (s.apply.pendingCredits + 1) else s.apply.pendingCredits }

theorem State.creditPending_headRetired (s : State) :
    State.creditPending { s with apply := { s.apply with queue := s.apply.queue.tail } } =
      { s with apply := s.headRetired } := by
  unfold State.creditPending State.headRetired
  dsimp only
  split <;> rfl

theorem State.entryStale_iff (s : State) (e : ApplyEntry) :
    s.entryStale e = true ↔ e.stale = true ∨ (s.stream e.stream).state ≠ .bound ∨
      (s.stream e.stream).session ≠ e.session := by
  simp [State.entryStale, or_assoc]

/-- A retirement, by the entry's staleness and its outcome (R106). -/
theorem State.retire_of (s : State) (e : ApplyEntry) (o : ApplyOutcome) :
    (s.entryStale e = true → s.retire e o = { s with
      apply := s.headRetired
      events := if o = .error then (s.put .applyError (some e.stream) e.line).events else s.events }) ∧
    (s.entryStale e = false →
      (o = .okay → s.retire e o = State.retireOkay { s with apply := s.headRetired } e) ∧
      (o = .error → s.retire e o = State.refuseApply { s with apply := s.headRetired } e)) := by
  have stale : State.entryStale { s with apply := s.headRetired } e = s.entryStale e := rfl
  unfold State.retire
  dsimp only
  rw [State.creditPending_headRetired, stale]
  refine ⟨fun h => ?_, fun h => ⟨fun ho => ?_, fun ho => ?_⟩⟩
  · rw [if_pos h]
    cases o with
    | okay => rfl
    | skipped => rfl
    | error =>
      dsimp only
      rw [State.applyError, State.put_eq, State.put_events_congr (s := s)]
      · rfl
      · rfl
  · rw [h, if_neg Bool.false_ne_true, ho]
  · rw [h, if_neg Bool.false_ne_true, ho]

theorem State.responderApplied_streams (s : State) (i : StreamId) (ses : Session) (q : Seq) :
    (s.responderApplied i ses q).streams = s.streams ∧ (s.responderApplied i ses q).apply = s.apply := by
  simp

theorem State.stream_retireOkay (s : State) (e : ApplyEntry) :
    (s.retireOkay e).stream e.stream = { s.stream e.stream with
      appliedSeq := e.seq, unacked := min 255 ((s.stream e.stream).unacked + 1)
      ackDelayTimer := if (s.stream e.stream).unacked = 0 then s.startTimer s.global.ackDelay
        else (s.stream e.stream).ackDelayTimer
      ackCount := if s.global.ackBatch ≤ min 255 ((s.stream e.stream).unacked + 1) ∧
          (s.stream e.stream).ackCount = 0 then 1 else (s.stream e.stream).ackCount } := by
  unfold State.retireOkay
  dsimp only
  rw [State.stream_of_streams _ _ (State.responderApplied_streams _ _ _ _).1, State.stream_modStream]

theorem State.retireOkay_apply (s : State) (e : ApplyEntry) : (s.retireOkay e).apply = s.apply :=
  (State.responderApplied_streams _ _ _ _).2

/-- The retirement that a responder job waits for takes it to READING (R146). -/
theorem State.retireOkay_reads (s : State) (e : ApplyEntry) (armed : s.audit.responder.state = .armed)
    (stream : s.audit.responder.stream = e.stream) (session : s.audit.responder.session = e.session)
    (mark : s.audit.responder.mark = e.seq) : (s.retireOkay e).audit.responder.state = .reading := by
  unfold State.retireOkay State.responderApplied
  dsimp only
  rw [if_pos]
  · rfl
  · exact ⟨armed, stream, session, mark⟩

/-- An apply refused takes its stream out of BOUND (R107). -/
theorem State.leftBound_refuseApply (s : State) (e : ApplyEntry) :
    State.leftBound { s with
      events := (s.put .applyError (some e.stream) e.line).events
      streams := (s.setStream e.stream { s.stream e.stream with
        nakSlot := some { target := (s.stream e.stream).cfg.peer, session := e.session
                          body := .refused .memory } }).streams }
      (s.refuseApply e) e.stream .listen .applyRefused .memory := by
  unfold State.refuseApply State.applyError
  rw [State.put_eq]
  exact State.leftBound_leaveBound _ _ _ _ _

/-- The first round of the end of an event, with a DONE head, is that head's retirement (R103, R106). -/
theorem settle_retires (s : State) (h : s.live) (e : ApplyEntry) (rest : List ApplyEntry) (o : ApplyOutcome)
    (head : s.passEntries s.apply.queue = e :: rest) (done : e.progress = .done o) :
    settle s = settle (State.retire { s with apply := { s.apply with queue := e :: rest } } e o) := by
  have passed : s.passIssuePoint = { s with apply := { s.apply with queue := e :: rest } } := by
    unfold State.passIssuePoint
    rw [head]
  have length : s.apply.queue.length = rest.length + 1 := by
    rw [← s.passEntries_length s.apply.queue, head]
    rfl
  have round : State.applyPass (s.apply.queue.length + 1) s =
      State.applyPass s.apply.queue.length
        (State.retire { s with apply := { s.apply with queue := e :: rest } } e o) := by
    rw [State.applyPass, passed]
    dsimp only
    rw [done]
  have left := State.retire_queue_length { s with apply := { s.apply with queue := e :: rest } } e o
  have frame := State.retire_frame { s with apply := { s.apply with queue := e :: rest } } e o
  rw [settle_live s h.2 h.1, round]
  generalize State.retire { s with apply := { s.apply with queue := e :: rest } } e o = w at left frame ⊢
  have soft : w.softReset = false := by simp_all [State.live]
  have reset : w.resetAsserted = false := by simp_all [State.live]
  have left' : w.apply.queue.length = rest.length := left
  rw [settle_live w soft reset, left', length]

/-- Settles O29, by R104, R106 and R107. -/
theorem applyCompletionAndRetirement : Obligations.ApplyCompletionAndRetirement := by
  refine ⟨fun t st d m s h hm owner => ?_, fun e o s => ⟨fun stale => ?_, fun fresh bound session =>
    ⟨fun ho => ⟨?_, ?_, fun armed stream ses mark => ?_⟩, fun ho => ?_⟩⟩,
    fun e rest o s h head done => settle_retires s h e rest o head done⟩
  · rw [exec_mpResponse t st d s h, mpResponse_of s t st d m hm]
    refine next_settle ?_
    unfold State.deliver
    rw [owner]
    dsimp only
    rw [State.applyDone, tag_of_find hm, Status.outcome_eq]
    rfl
  · exact (s.retire_of e o).1 ((s.entryStale_iff e).mpr stale)
  all_goals
    have own := entryStale_of_bound s e fresh bound session
    obtain ⟨okay, error⟩ := (s.retire_of e o).2 own
  · rw [okay ho]
    exact State.stream_retireOkay _ e
  · rw [okay ho]
    exact State.retireOkay_apply _ e
  · rw [okay ho]
    exact State.retireOkay_reads _ e armed stream ses mark
  · rw [error ho]
    have left := State.leftBound_refuseApply { s with apply := s.headRetired } e
    rw [State.put_events_congr (s := s) (t := { s with apply := s.headRetired }) rfl] at left
    exact left

end Sys2Proof.Machine
end


section
/-! PROOFS. Commands refused (O48), and the opening commands (O49). -/

namespace Sys2Proof.Machine

/-! ### A command and its result -/

/-- A refused command changes nothing but the command word and the command result (R159). -/
theorem command_refused (s : State) (code : Byte) (p : CmdParams) (o : CommandOutcome) (effect : State → State)
    (h : o = .refusedState ∨ o = .refusedParam) :
    (s.afterWord 0x330#16).command code p o effect = { s with mgmt := s.afterCommand code p o } := by
  rcases h with rfl | rfl <;> rfl

/-- The Management Port at an accepted command's effect, its result not yet written. -/
def State.commandTaken (s : State) (code : Byte) (p : CmdParams) : Management :=
  { s.mgmt with spi := s.mgmt.spi.wrote 0x330#16 false, commandWord := CmdParams.word code p }

/-- An accepted command's effect, which keeps the Management Port (R159). -/
theorem command_done (s : State) (code : Byte) (p : CmdParams) (effect : State → State)
    (kept : ∀ v : State, (effect v).mgmt = v.mgmt) :
    (s.afterWord 0x330#16).command code p .done effect =
      { effect { s with mgmt := s.commandTaken code p } with mgmt := s.afterCommand code p .done } := by
  have done : (s.afterWord 0x330#16).command code p .done effect =
    (effect { s with mgmt := s.commandTaken code p }).setResult .done code p.stream := rfl
  rw [done, State.setResult, kept]
  rfl

theorem StreamConfig.aligned_eq_false_iff (c : StreamConfig) :
    c.aligned = false ↔ c.extentBase.toNat % (4096 * 2 ^ c.sizeCode) ≠ 0 := by
  simp [StreamConfig.aligned, StreamConfig.bytes]

/-! ### The results (Tables 3-4, 4-2, 11-2) -/

theorem Stream.openResult_of (st : Stream) :
    ((st.cfg.direction = .receive ∨ st.cfg.limit = 0 ∨ st.cfg.aligned = false) → st.openResult = .refusedParam) ∧
    (st.cfg.direction = .send → st.cfg.limit ≠ 0 → st.cfg.aligned ≠ false →
      (st.state ≠ .off → st.openResult = .refusedState) ∧ (st.state = .off → st.openResult = .done)) := by
  unfold Stream.openResult
  refine ⟨fun h => if_pos h, fun send limit aligned => ?_⟩
  rw [if_neg (by simp [send, limit, aligned])]
  exact ⟨fun h => if_pos h, fun h => if_neg (not_not.mpr h)⟩

theorem Stream.reopenResult_of (st : Stream) :
    (st.cfg.direction = .receive → st.reopenResult = .refusedParam) ∧
    (st.cfg.direction = .send → (st.state ≠ .degraded → st.reopenResult = .refusedState) ∧
      (st.state = .degraded → st.reopenResult = .done)) := by
  unfold Stream.reopenResult
  refine ⟨fun h => if_pos h, fun send => ?_⟩
  rw [if_neg (by simp [send])]
  exact ⟨fun h => if_pos h, fun h => if_neg (not_not.mpr h)⟩

theorem Stream.closeResult_of (st : Stream) :
    (st.cfg.direction = .receive → st.closeResult = .refusedParam) ∧
    (st.cfg.direction = .send → (st.state ≠ .resync → st.state ≠ .active → st.closeResult = .refusedState) ∧
      (st.mirrors → st.closeResult = .done)) := by
  unfold Stream.closeResult
  refine ⟨fun h => if_pos h, fun send => ?_⟩
  rw [if_neg (by simp [send])]
  exact ⟨fun h h' => if_pos ⟨h, h'⟩, fun h => if_neg fun both => h.elim both.1 both.2⟩

theorem Stream.listenResult_of (st : Stream) :
    ((st.cfg.direction = .send ∨ st.cfg.aligned = false) → st.listenResult = .refusedParam) ∧
    (st.cfg.direction = .receive → st.cfg.aligned ≠ false →
      (st.state ≠ .off → st.listenResult = .refusedState) ∧ (st.state = .off → st.listenResult = .done)) := by
  unfold Stream.listenResult
  refine ⟨fun h => if_pos h, fun receive aligned => ?_⟩
  rw [if_neg (by simp [receive, aligned])]
  exact ⟨fun h => if_pos h, fun h => if_neg (not_not.mpr h)⟩

theorem auditStartResult_of (s : State) (p : CmdParams) :
    ((s.stream p.stream).cfg.direction = .receive ∨ p.granuleCount = 0#11 ∨ 1024 < p.granuleCount.toNat ∨
      (s.stream p.stream).cfg.granules < p.firstGranule.toNat + p.granuleCount.toNat →
      s.auditStartResult p = .refusedParam) ∧
    ((s.stream p.stream).cfg.direction = .send → p.granuleCount ≠ 0#11 → p.granuleCount.toNat ≤ 1024 →
      p.firstGranule.toNat + p.granuleCount.toNat ≤ (s.stream p.stream).cfg.granules →
      ((s.stream p.stream).state ≠ .active ∨ s.audit.initiator.state ≠ .idle → s.auditStartResult p = .refusedState) ∧
      ((s.stream p.stream).state = .active → s.audit.initiator.state = .idle → s.auditStartResult p = .done)) := by
  have zero : p.granuleCount.toNat = 0 ↔ p.granuleCount = 0#11 :=
    ⟨fun e => BitVec.eq_of_toNat_eq e, fun e => by rw [e]; rfl⟩
  unfold State.auditStartResult
  dsimp only
  simp only [zero]
  refine ⟨fun h => if_pos h, fun send count high range => ?_⟩
  rw [if_neg (by simp only [send, count, not_or]; exact ⟨by decide, id, by omega, by omega⟩)]
  exact ⟨fun h => if_pos h, fun h h' => if_neg (not_or.mpr ⟨not_not.mpr h, not_not.mpr h'⟩)⟩

/-! ### The commands (Table 11-2) -/

theorem takeCommand_openStream (s : State) (p : CmdParams) :
    s.takeCommand 0x01#8 p = s.command 0x01#8 p (s.stream p.stream).openResult (fun s => s.doOpen p.stream) := rfl

theorem takeCommand_openClean (s : State) (p : CmdParams) :
    s.takeCommand 0x02#8 p = s.command 0x02#8 p (s.stream p.stream).openResult (fun s => s.doOpenClean p.stream) := rfl

theorem takeCommand_reopen (s : State) (p : CmdParams) :
    s.takeCommand 0x03#8 p = s.command 0x03#8 p (s.stream p.stream).reopenResult (fun s => s.doReopen p.stream) := rfl

theorem takeCommand_close (s : State) (p : CmdParams) :
    s.takeCommand 0x04#8 p = s.command 0x04#8 p (s.stream p.stream).closeResult (fun s => s.toClosing p.stream) := rfl

theorem takeCommand_resetStream (s : State) (p : CmdParams) :
    s.takeCommand 0x05#8 p = s.command 0x05#8 p .done (fun s => s.doReset p.stream) := rfl

theorem takeCommand_listen (s : State) (p : CmdParams) :
    s.takeCommand 0x06#8 p = s.command 0x06#8 p (s.stream p.stream).listenResult (fun s => s.doListen p.stream) := rfl

theorem takeCommand_linkEnable (s : State) (p : CmdParams) :
    s.takeCommand 0x10#8 p = s.command 0x10#8 p s.linkEnableResult State.enterTraining := rfl

theorem takeCommand_linkDisable (s : State) (p : CmdParams) :
    s.takeCommand 0x11#8 p = s.command 0x11#8 p .done State.doLinkDisable := rfl

theorem takeCommand_linkRetrain (s : State) (p : CmdParams) :
    s.takeCommand 0x12#8 p = s.command 0x12#8 p s.linkRetrainResult (fun s => s.retrain .command) := rfl

theorem takeCommand_auditStart (s : State) (p : CmdParams) :
    s.takeCommand 0x20#8 p = s.command 0x20#8 p (s.auditStartResult p)
      (fun s => s.startAudit p.stream p.firstGranule.toNat p.granuleCount.toNat) := rfl

theorem takeCommand_auditAbort (s : State) (p : CmdParams) :
    s.takeCommand 0x21#8 p = s.command 0x21#8 p s.auditAbortResult State.abortByCommand := rfl

theorem takeCommand_softReset (s : State) (p : CmdParams) :
    s.takeCommand 0x5A#8 p = s.command 0x5A#8 p .done State.doSoftReset := rfl

/-- A code that names no command is refused (R159). -/
theorem takeCommand_unknown (s : State) (code : Byte) (p : CmdParams) (h : isCommandCode code = false) :
    s.takeCommand code p = s.command code p .refusedParam id := by
  have named (n : Nat) (hn : code.toNat = n) : isCommandCode (BitVec.ofNat 8 n) = false := by
    rw [← hn, BitVec.ofNat_toNat, BitVec.setWidth_eq]
    exact h
  unfold State.takeCommand
  dsimp only
  split
  case h_13 => rfl
  all_goals next hn => exact absurd (named _ hn) (by decide)

/-- Settles O48, by the tables of command results. -/
theorem commandsRefused : Obligations.CommandsRefused := by
  intro p s h
  have released := h.1.1
  have aligned := StreamConfig.aligned_eq_false_iff (s.stream p.stream).cfg
  have run {c : Instr} {code : Byte} (runs : exec c s = .next (settle (s.commandWrite code p))) {o : CommandOutcome}
      {effect : State → State}
      (taken : (s.afterWord 0x330#16).takeCommand code p = (s.afterWord 0x330#16).command code p o effect)
      {o' : CommandOutcome} (result : o = o') (refused : o' = .refusedState ∨ o' = .refusedParam) :
      exec c s = .next (settle { s with mgmt := s.afterCommand code p o' }) := by
    rw [runs, commandWrite_of code p s h, taken, result, command_refused s code p o' effect refused]
  have openStream {o : CommandOutcome} (e : (s.stream p.stream).openResult = o) :=
    run (exec_openStream p s released) (takeCommand_openStream _ p) e
  have openClean {o : CommandOutcome} (e : (s.stream p.stream).openResult = o) :=
    run (exec_openClean p s released) (takeCommand_openClean _ p) e
  obtain ⟨openParam, openState⟩ := (s.stream p.stream).openResult_of
  obtain ⟨reopenParam, reopenState⟩ := (s.stream p.stream).reopenResult_of
  obtain ⟨closeParam, closeState⟩ := (s.stream p.stream).closeResult_of
  obtain ⟨listenParam, listenState⟩ := (s.stream p.stream).listenResult_of
  obtain ⟨auditParam, auditState⟩ := auditStartResult_of s p
  refine ⟨fun hp => ?_, fun send limit al st => ?_, fun hp => ?_, fun send st => ?_, fun send st st' => ?_, fun hp => ?_,
    fun receive al st => ?_, fun hl => ?_, fun hl => ?_, fun hp => ?_, fun send count high range st => ?_, fun hj => ?_,
    fun code unknown => ?_⟩
  · have e := openParam (hp.imp_right (Or.imp_right aligned.mpr))
    exact ⟨openStream e (.inr rfl), openClean e (.inr rfl)⟩
  · have e := (openState send limit (mt aligned.mp al)).1 st
    exact ⟨openStream e (.inl rfl), openClean e (.inl rfl)⟩
  · exact ⟨run (exec_reopen p s released) (takeCommand_reopen _ p) (reopenParam hp) (.inr rfl),
      run (exec_close p s released) (takeCommand_close _ p) (closeParam hp) (.inr rfl)⟩
  · exact run (exec_reopen p s released) (takeCommand_reopen _ p) ((reopenState send).1 st) (.inl rfl)
  · exact run (exec_close p s released) (takeCommand_close _ p) ((closeState send).1 st st') (.inl rfl)
  · exact run (exec_listen p s released) (takeCommand_listen _ p) (listenParam (hp.imp_right aligned.mpr)) (.inr rfl)
  · exact run (exec_listen p s released) (takeCommand_listen _ p) ((listenState receive (mt aligned.mp al)).1 st)
      (.inl rfl)
  · have e : s.linkEnableResult = .refusedState := if_neg hl
    exact run (exec_linkEnable p s released) (takeCommand_linkEnable _ p) e (.inl rfl)
  · have e : s.linkRetrainResult = .refusedState := if_neg hl
    exact run (exec_linkRetrain p s released) (takeCommand_linkRetrain _ p) e (.inl rfl)
  · exact run (exec_auditStart p s released) (takeCommand_auditStart _ p) (auditParam hp) (.inr rfl)
  · exact run (exec_auditStart p s released) (takeCommand_auditStart _ p) ((auditState send count high range).1 st)
      (.inl rfl)
  · have e : s.auditAbortResult = .refusedState := if_pos hj
    exact run (exec_auditAbort p s released) (takeCommand_auditAbort _ p) e (.inl rfl)
  · exact run (exec_unknownCommand code p s released) (takeCommand_unknown _ code p unknown) rfl (.inr rfl)

/-! ### Opening -/

/-- The entry to OPENING (R51, R57). -/
theorem State.toOpening_eq (s : State) (i : StreamId) (c : Cause) :
    s.toOpening i c = { s.setStream i { s.stream i with
        state := .opening, cause := c, reason := .none, session := (s.stream i).session + 1, nextSeq := 0#16
        ackedSeq := 65535#16, sentSeq := 65535#16, retryCount := 0, copyPos := none, cursor := none
        retransmitTimer := none, handshakeTimer := none, handshakeDue := true } with
      owed := s.owed ++ [stateEvent i .opening c .none] } := by
  unfold State.toOpening
  dsimp only
  rw [State.changeState_eq, State.stream_modStream, State.modStream, State.setStream_setStream]
  rfl

theorem State.doOpen_eq (s : State) (i : StreamId) :
    s.doOpen i = { s.setStream i { s.stream i with
        state := .opening, cause := .command, reason := .none, session := (s.stream i).session + 1, nextSeq := 0#16
        ackedSeq := 65535#16, sentSeq := 65535#16, retryCount := 0
        dirty := List.range (min 1024 (64 * 2 ^ (s.stream i).cfg.sizeCode)), copyPos := none, cursor := none
        retransmitTimer := none, handshakeTimer := none, handshakeDue := true } with
      owed := s.owed ++ [stateEvent i .opening .command .none] } := by
  unfold State.doOpen
  rw [State.toOpening_eq, State.stream_modStream, State.modStream, State.setStream_setStream]
  rfl

/-- Settles O49, by R51 and R57. -/
theorem openingCommands : Obligations.OpeningCommands := by
  intro p s h
  have released := h.1.1
  have aligned := StreamConfig.aligned_eq_false_iff (s.stream p.stream).cfg
  refine ⟨fun send limit al off => ?_, fun send degraded => ?_⟩
  · have result : ((s.afterWord 0x330#16).stream p.stream).openResult = .done :=
      ((s.stream p.stream).openResult_of.2 send limit (mt aligned.mp (not_not.mpr al))).2 off
    constructor
    · rw [exec_openStream p s released, commandWrite_of _ p s h, takeCommand_openStream, result,
        command_done s _ p _ fun v => by rw [State.doOpen_eq]; rfl]
      dsimp only
      rw [State.doOpen_eq]
      rfl
    · rw [exec_openClean p s released, commandWrite_of _ p s h, takeCommand_openClean, result,
        command_done s _ p _ fun v => by rw [State.doOpenClean, State.toOpening_eq]; rfl]
      dsimp only
      rw [State.doOpenClean, State.toOpening_eq]
      rfl
  · have result : ((s.afterWord 0x330#16).stream p.stream).reopenResult = .done :=
      ((s.stream p.stream).reopenResult_of.2 send).2 degraded
    rw [exec_reopen p s released, commandWrite_of _ p s h, takeCommand_reopen, result,
      command_done s _ p _ fun v => by rw [State.doReopen, State.toOpening_eq]; rfl]
    dsimp only
    rw [State.doReopen, State.toOpening_eq]
    rfl

end Sys2Proof.Machine
end


section
/-! PROOFS. Accepted commands that close, listen and reset (O50, O51). Their effects are stated of the state before the
command's own words are written; the transfers to the Management Port that the command leaves stand first. -/

namespace Sys2Proof.Machine

/-! ### Moves made with another Management Port -/

/-- The state with another Management Port. -/
def State.withMgmt (s : State) (m : Management) : State := { s with mgmt := m }

theorem State.holdsAnswered.congr {s u v : State} {i : StreamId} (h : s.holdsAnswered u i) (hsp : v.sp = u.sp)
    (hh : v.holds = u.holds) : s.holdsAnswered v i := by
  have hold (k : Fin 4) : v.hold k = u.hold k := State.hold_of_holds hh k
  obtain ⟨sp, emptied, kept, ranked⟩ := h
  refine ⟨hsp.trans sp, fun k hk => (hold k).trans (emptied k hk), fun k hk => (hold k).trans (kept k hk),
    fun k w hk hne => ?_⟩
  rw [hold]
  exact ranked k w hk hne

theorem State.enteredDegraded_withMgmt {s u : State} {i : StreamId} {c : Cause} {r : Reason}
    (h : s.enteredDegraded u i c r) (m : Management) : (s.withMgmt m).enteredDegraded (u.withMgmt m) i c r := by
  obtain ⟨own, list, dirty, others, pool, answered, owed, engine, audit, frame⟩ := h
  refine ⟨own, list, dirty, others, pool, ?_, owed, engine, ?_, congrArg (fun w => State.withMgmt w m) frame⟩
  · exact State.holdsAnswered_of (t := s) rfl rfl (answered.congr rfl rfl)
  · exact State.auditLeft_of (t := s) rfl rfl (audit.congr rfl rfl)

theorem State.enteredOff_withMgmt {s u : State} {i : StreamId} {c : Cause} {r : Reason} (h : s.enteredOff u i c r)
    (m : Management) : (s.withMgmt m).enteredOff (u.withMgmt m) i c r := congrArg (fun w => State.withMgmt w m) h

theorem State.leftBound_withMgmt {s u : State} {i : StreamId} {x : StreamState} {c : Cause} {r : Reason}
    (h : s.leftBound u i x c r) (m : Management) : (s.withMgmt m).leftBound (u.withMgmt m) i x c r :=
  ⟨congrArg (fun w => State.withMgmt w m) h.1, h.2.congr rfl rfl rfl rfl⟩

theorem State.wentDown_withMgmt {s u : State} {i : StreamId} (h : s.wentDown u i) (m : Management) :
    (s.withMgmt m).wentDown (u.withMgmt m) i := by
  have state : ((s.withMgmt m).stream i).state = (s.stream i).state := rfl
  unfold State.wentDown at h ⊢
  rw [state]
  cases hs : (s.stream i).state with
  | opening | resync | active =>
    rw [hs] at h
    exact State.enteredDegraded_withMgmt h m
  | closing =>
    rw [hs] at h
    exact State.enteredOff_withMgmt h m
  | bound =>
    rw [hs] at h
    exact State.leftBound_withMgmt h m
  | off | degraded | listen =>
    rw [hs] at h
    exact congrArg (fun w => State.withMgmt w m) h

theorem State.streamsWentDown_withMgmt {s u : State} (h : s.streamsWentDown u) (m : Management) :
    (s.withMgmt m).streamsWentDown (u.withMgmt m) := by
  obtain ⟨path, start, last, moves⟩ := h
  exact ⟨fun k => (path k).withMgmt m, congrArg (fun w => State.withMgmt w m) start,
    congrArg (fun w => State.withMgmt w m) last, fun i => State.wentDown_withMgmt (moves i) m⟩

theorem State.retrained_withMgmt {s u : State} {cause : Nat} {error : Option Nat} (h : s.retrained u cause error)
    (m : Management) : (s.withMgmt m).retrained (u.withMgmt m) cause error := by
  rw [State.retrained_iff] at h ⊢
  obtain ⟨frame, streams⟩ := h
  refine ⟨?_, streams⟩
  rw [State.retrainEvents_of_events (s := s) (t := s.withMgmt m) rfl]
  exact congrArg (fun w => State.withMgmt w m) frame

theorem State.jobEnded_withMgmt {s u : State} {o : AuditOutcome} {r : Reason} {mine theirs : Option Word32}
    (h : s.jobEnded u o r mine theirs) (m : Management) :
    (s.withMgmt m).jobEnded (u.withMgmt m) o r mine theirs := by
  unfold State.jobEnded at h ⊢
  rw [State.put_events_congr (s := s) (t := s.withMgmt m) rfl]
  exact congrArg (fun w => State.withMgmt w m) h

/-- A command that is taken and accepted, as its effect with the words of the command written (R159). -/
theorem command_runs {c : Instr} {code : Byte} {p : CmdParams} {s : State} (h : s.writable)
    (runs : exec c s = .next (settle (s.commandWrite code p))) {o : CommandOutcome} {effect : State → State}
    (taken : (s.afterWord 0x330#16).takeCommand code p = (s.afterWord 0x330#16).command code p o effect)
    (done : o = .done) (kind : CommandEffect p effect) :
    exec c s = .next (settle ((effect (s.withMgmt (s.commandTaken code p))).withMgmt (s.afterCommand code p .done))) := by
  rw [runs, commandWrite_of code p s h, taken, done, command_done s code p effect fun v => kind.mgmt v]
  rfl

/-! ### CLOSE and LISTEN -/

theorem State.drained_eq (s : State) (i : StreamId) :
    s.drained i = s.setStream i { s.stream i with
      retryCount := if (s.stream i).state = .closing ∧ (s.stream i).sendList = [] then 0 else (s.stream i).retryCount
      handshakeDue := (s.stream i).handshakeDue ||
        decide ((s.stream i).state = .closing ∧ (s.stream i).sendList = []) } := by
  by_cases h : (s.stream i).drains
  · have drains : (s.stream i).state = .closing ∧ (s.stream i).sendList = [] := h
    rw [s.drained_of i h, if_pos drains, decide_eq_true drains, Bool.or_true]
  · have stays : ¬((s.stream i).state = .closing ∧ (s.stream i).sendList = []) := h
    rw [s.drained_not i h, if_neg stays, decide_eq_false stays, Bool.or_false]
    exact (s.setStream_self i).symm

/-- The stream's own part of the entry to CLOSING, made after its audit has ended (R58). -/
def State.closingAt (s : State) (i : StreamId) : State :=
  { (s.abortAudit i).setStream i { s.stream i with
      state := .closing, cause := .command, reason := .none, copyPos := none, dirty := [], closeSent := false
      handshakeDue := false, handshakeTimer := none } with
    owed := s.owed ++ [stateEvent i .closing .command .none] }

theorem State.toClosing_eq (s : State) (i : StreamId) :
    s.toClosing i = (((s.closingAt i).answerStream i).engineLeave i).drained i := by
  have own : ((s.abortAudit i).modStream i (fun st =>
      { st with copyPos := none, dirty := [], closeSent := false, handshakeDue := false
                handshakeTimer := none })).changeState i .closing .command .none = s.closingAt i := by
    unfold State.closingAt
    rw [State.changeState_eq, State.stream_modStream, State.modStream, State.setStream_setStream, State.abortAudit_eq]
    rfl
  unfold State.toClosing
  dsimp only
  rw [own]

/-- The entry to CLOSING, as the stream's part, the hold slots, the engine and the audit job together (R58). -/
theorem State.toClosing_parts (s : State) (i : StreamId) :
    s.toClosing i = { s.setStream i { s.stream i with
        state := .closing, cause := .command, reason := .none, copyPos := none, dirty := [], closeSent := false
        handshakeTimer := none, handshakeDue := decide ((s.stream i).sendList = [])
        retryCount := if (s.stream i).sendList = [] then 0 else (s.stream i).retryCount } with
      owed := s.owed ++ [stateEvent i .closing .command .none]
      sp := ((s.closingAt i).answerStream i).sp, holds := ((s.closingAt i).answerStream i).holds
      engine := (((s.closingAt i).answerStream i).engineLeave i).engine
      audit := (s.abortAudit i).audit, events := (s.abortAudit i).events } := by
  rw [State.toClosing_eq, State.drained_eq]
  have left : ((s.closingAt i).answerStream i).engineLeave i = { s.closingAt i with
      sp := ((s.closingAt i).answerStream i).sp, holds := ((s.closingAt i).answerStream i).holds
      engine := (((s.closingAt i).answerStream i).engineLeave i).engine } := by
    rw [State.engineLeave_eq, State.answerStream_eq]
  have stream : (((s.closingAt i).answerStream i).engineLeave i).stream i = { s.stream i with
      state := .closing, cause := .command, reason := .none, copyPos := none, dirty := [], closeSent := false
      handshakeDue := false, handshakeTimer := none } := by
    rw [left]
    exact State.stream_setStream _ i _
  rw [stream]
  simp only [true_and, Bool.false_or]
  generalize ((s.closingAt i).answerStream i).engineLeave i = w at left ⊢
  generalize ((s.closingAt i).answerStream i).sp = sp at left ⊢
  generalize ((s.closingAt i).answerStream i).holds = holds at left ⊢
  rw [left]
  unfold State.closingAt
  rw [State.abortAudit_eq]
  simp only [State.setStream, Vector.set_set]

theorem State.doListen_eq (s : State) (i : StreamId) :
    s.doListen i = { s.setStream i { s.stream i with
        state := .listen, cause := .command, reason := .none, unacked := 0, ackCount := 0, ackDelayTimer := none
        nakOutstanding := false } with
      owed := s.owed ++ [stateEvent i .listen .command .none] } := by
  unfold State.doListen
  rw [State.changeState_eq, State.stream_modStream, State.modStream, State.setStream_setStream]
  rfl

/-- Settles O50, by R58 and R61. -/
theorem closeAndListenCommands : Obligations.CloseAndListenCommands := by
  refine ⟨fun p s h send mirrors => ?_, fun p s h receive al off => ?_⟩
  · have result : ((s.afterWord 0x330#16).stream p.stream).closeResult = .done :=
      ((s.stream p.stream).closeResult_of.2 send).2 mirrors
    let v := s.withMgmt (s.commandTaken 0x04#8 p)
    have parts := v.toClosing_parts p.stream
    have sp : (v.closingAt p.stream).sp = s.sp := (State.abortAudit_frame v p.stream).1
    have holds : (v.closingAt p.stream).holds = s.holds := by
      have kept : (v.abortAudit p.stream).holds = v.holds := by simp
      exact kept
    have answered := State.holdsAnswered_answerStream (s := s) p.stream sp holds
    have engine : ((v.closingAt p.stream).answerStream p.stream).engine = s.engine := by
      have kept : (v.abortAudit p.stream).engine = v.engine := by simp
      rw [State.answerStream_eq]
      exact kept
    have left := State.engineLeft_engineLeave (s := s) p.stream engine
    have audit := State.auditLeft_of (s := s) (t := v) rfl rfl (v.auditLeft_abortAudit p.stream)
    refine ⟨_, command_runs h (exec_close p s h.1.1) (takeCommand_close _ p) result .closed, rfl, ?_⟩
    generalize v.toClosing p.stream = u at parts ⊢
    subst parts
    refine ⟨State.stream_setStream _ _ _, fun j hj => State.stream_setStream_ne v p.stream j _ hj,
      answered.congr rfl rfl, left, audit.congr rfl rfl, rfl, rfl, rfl, rfl, rfl, rfl⟩
  · have aligned := StreamConfig.aligned_eq_false_iff (s.stream p.stream).cfg
    have result : ((s.afterWord 0x330#16).stream p.stream).listenResult = .done :=
      ((s.stream p.stream).listenResult_of.2 receive (mt aligned.mp (not_not.mpr al))).2 off
    rw [command_runs h (exec_listen p s h.1.1) (takeCommand_listen _ p) result .listening]
    dsimp only
    rw [State.doListen_eq]
    rfl

/-! ### RESET_STREAM -/

/-- The stream's own part of a reset of a SEND stream, made after its audit has ended (R60). -/
def State.resetAt (s : State) (i : StreamId) : State :=
  { (s.abortAudit i).setStream i { s.stream i with
      state := .off, cause := .command, reason := .none, sendList := flushedList (s.stream i).sendList, dirty := []
      copyPos := none, cursor := none, retransmitTimer := none, handshakeTimer := none, handshakeDue := false
      retryCount := 0 } with
    pool := s.pool.freed s.global.poolLowThreshold (s.stream i).flushedSlots
    owed := s.owed ++ [stateEvent i .off .command .none] }

theorem State.sendCleared_eq (s : State) (i : StreamId) :
    s.sendCleared i = ((s.resetAt i).answerStream i).engineLeave i := by
  have own : ((((s.abortAudit i).flush i).modStream i (fun st =>
      { st.clearSend.clearHandshake with dirty := [], copyPos := none, retryCount := 0 })).changeState i .off .command
      .none) = s.resetAt i := by
    unfold State.resetAt
    rw [State.changeState_eq, State.stream_modStream, State.modStream, State.setStream_setStream, State.flush_eq,
      State.abortAudit_eq]
    simp only [State.stream, State.setStream, vector_get_set, if_true, Vector.set_set]
    rfl
  unfold State.sendCleared
  rw [own]

theorem State.requestReset_eq (s : State) (i : StreamId) (ses : Session) :
    s.requestReset i ses = { s with link := { s.link with
      class3 := s.link.class3.filter (fun q => !q.ownFrameOf i) ++
        (if s.link.state = .up then [.resetClose i ses] else []) } } := by
  unfold State.requestReset
  dsimp only
  split
  · rfl
  · rw [List.append_nil]

/-- A reset of a SEND stream, as the stream's part, the hold slots, the engine, the audit job and the requests
together (R60). -/
theorem State.resetSend_parts (s : State) (i : StreamId) :
    s.resetSend i = { s.resetAt i with
      sp := ((s.resetAt i).answerStream i).sp, holds := ((s.resetAt i).answerStream i).holds
      engine := (((s.resetAt i).answerStream i).engineLeave i).engine
      link := { s.link with class3 := s.link.class3.filter (fun q => !q.ownFrameOf i) ++
        (if s.link.state = .up then [.resetClose i (s.stream i).session] else []) } } := by
  have link : (s.resetAt i).link = s.link := by
    have kept : (s.abortAudit i).link = s.link := by simp
    exact kept
  rw [State.resetSend_eq, State.requestReset_eq, State.sendCleared_eq, State.engineLeave_eq, State.answerStream_eq,
    link]

theorem State.doReset_of (s : State) (i : StreamId) :
    ((s.stream i).state = .off → s.doReset i = s) ∧
    ((s.stream i).state ≠ .off → (s.stream i).cfg.direction = .receive →
      s.doReset i = s.leaveBound i .off .command .none) ∧
    ((s.stream i).state ≠ .off → (s.stream i).cfg.direction = .send → s.doReset i = s.resetSend i) := by
  unfold State.doReset
  refine ⟨fun off => if_pos off, fun on receive => ?_, fun on send => ?_⟩
  · rw [if_neg on, receive]
  · rw [if_neg on, send]

/-- Settles O51, by R60 and R64. -/
theorem resetStreamCommand : Obligations.ResetStreamCommand := by
  intro p s h i st m
  have run := command_runs h (exec_resetStream p s h.1.1) (takeCommand_resetStream _ p) rfl .reset
  let v := s.withMgmt (s.commandTaken 0x05#8 p)
  obtain ⟨inOff, receives, sends⟩ := v.doReset_of i
  refine ⟨fun off => ?_, fun on receive => ⟨_, run, ?_⟩, fun on send => ⟨_, run, rfl, ?_⟩⟩
  · have same : v.doReset p.stream = v := inOff off
    rw [run, same]
    rfl
  · have left : v.doReset p.stream = v.leaveBound i .off .command .none := receives on receive
    rw [left]
    exact State.leftBound_withMgmt (v.leftBound_leaveBound i .off .command .none) m
  · have parts : v.doReset p.stream = v.resetSend i := sends on send
    rw [State.resetSend_parts] at parts
    have sp : (v.resetAt i).sp = s.sp := (State.abortAudit_frame v i).1
    have holds : (v.resetAt i).holds = s.holds := by
      have kept : (v.abortAudit i).holds = v.holds := by simp
      exact kept
    have engine : ((v.resetAt i).answerStream i).engine = s.engine := by
      have kept : (v.abortAudit i).engine = v.engine := by simp
      rw [State.answerStream_eq]
      exact kept
    have answered := State.holdsAnswered_answerStream (s := s) i sp holds
    have left := State.engineLeft_engineLeave (s := s) i engine
    have audit := State.auditLeft_of (s := s) (t := v) rfl rfl (v.auditLeft_abortAudit i)
    have stream (j : StreamId) (hj : j ≠ i) : (v.abortAudit i).stream j = s.stream j := by
      rw [State.abortAudit_eq]
      rfl
    have frame := State.abortAudit_eq v i
    generalize v.doReset p.stream = u at parts ⊢
    subst parts
    refine ⟨State.stream_setStream _ _ _, fun j hj =>
      (State.stream_setStream_ne (v.abortAudit i) i j _ hj).trans (stream j hj), rfl, answered.congr rfl rfl, left,
      audit.congr rfl rfl, rfl, rfl, ?_, ?_, ?_⟩
    · exact (congrArg State.apply frame :)
    · exact (congrArg State.mp frame :)
    · exact (congrArg State.windows frame :)

end Sys2Proof.Machine
end


section
/-! PROOFS. Accepted commands of the link, the audit and the soft reset (O52, O53, O3). -/

namespace Sys2Proof.Machine

/-! ### LINK_DISABLE -/

/-- The state at a LINK_DISABLE taken in TRAINING or UP, before its streams meet the link DOWN event (R79). -/
def State.disabling (s : State) : State :=
  { s with
    link := { s.link with
      state := .off, helloTimer := none, trainingTimer := none, downTimer := none, keepaliveTimer := none
      silenceTimer := none, credits := 0, txNumber := 0#8, rxNumber := 0#8, heard := false, heardSent := false
      confirmed := false, helloRequest := false, class2 := [], class3 := [], class4 := [] }
    apply := { s.apply with pendingCredits := 0 }
    events := (s.put .linkDown none 2#20).events
    streams := if s.link.state = .up then s.leaveUp.streams else s.streams }

theorem State.disableLink_eq (s : State) : s.disableLink = s.disabling.streamsDown := by
  unfold State.disableLink
  dsimp only
  congr 1
  rw [State.put_eq, State.put_events_congr (s := s)]
  · unfold State.disabling
    split <;> rfl
  · split <;> rfl

theorem State.stream_disabling (s : State) (h : s.link.state = .up) (i : StreamId) :
    s.disabling.stream i = (s.stream i).linkLeftUp := by
  rw [← s.stream_leaveUp i]
  exact State.stream_of_streams _ _ (if_pos h) i

theorem State.doLinkDisable_of (s : State) :
    (s.link.state = .off → s.doLinkDisable = s) ∧
    (s.link.state = .down → s.doLinkDisable = { s with link := { s.link with state := .off, downTimer := none } }) ∧
    (s.link.state = .training ∨ s.link.state = .up → s.doLinkDisable = s.disabling.streamsDown) := by
  rw [← s.disableLink_eq]
  unfold State.doLinkDisable
  refine ⟨fun h => ?_, fun h => ?_, fun h => ?_⟩
  · rw [h]
  · rw [h]
  · rcases h with h | h <;> rw [h]

/-! ### The link enable indication -/

theorem State.linkEnabled_iff (s : State) : s.linkEnabled = true ↔ s.link.state ≠ .off := by
  unfold State.linkEnabled
  exact bne_iff_ne

theorem getLsbD_putBit (b : Bool) (k n : Nat) :
    (putBit b k).getLsbD n = (b && decide (n < 32) && decide (n = k)) := by
  cases b
  · simp [putBit]
  · have at_bit : n < 32 → ¬ n < k → (n - k = 0 ↔ n = k) := fun _ _ => by omega
    by_cases h32 : n < 32 <;> by_cases hk : n < k
    · simp [putBit, h32, hk, Nat.ne_of_lt hk]
    · simp [putBit, h32, hk, at_bit h32 hk]
    all_goals simp [putBit, h32]

theorem State.enableBit_readGlobal (s : State) : (s.readGlobal 0).getLsbD 31 = s.linkEnabled := by
  unfold State.readGlobal
  dsimp only
  simp only [BitVec.getLsbD_or, getLsbD_putField, getLsbD_putBit]
  simp

/-- Settles O52, by R69, R78 and R79. -/
theorem linkCommands : Obligations.LinkCommands := by
  intro p s h
  have enable := command_runs h (exec_linkEnable p s h.1.1) (takeCommand_linkEnable _ p)
  have disable := command_runs h (exec_linkDisable p s h.1.1) (takeCommand_linkDisable _ p) rfl .linkDisabled
  have retrain := command_runs h (exec_linkRetrain p s h.1.1) (takeCommand_linkRetrain _ p)
  let w := s.withMgmt (s.commandTaken 0x11#8 p)
  let m := s.afterCommand 0x11#8 p .done
  obtain ⟨inOff, inDown, onLink⟩ := w.doLinkDisable_of
  refine ⟨fun off => ⟨?_, ?_⟩, fun down => ?_, fun on => ?_, fun up => ?_,
    s.linkEnabled_iff, fun _ => s.enableBit_readGlobal⟩
  · exact enable (if_pos off) .linkEnabled
  · have same : w.doLinkDisable = w := inOff off
    rw [disable, same]
    rfl
  · have moved : w.doLinkDisable = { w with link := { w.link with state := .off, downTimer := none } } := inDown down
    rw [disable, moved]
    rfl
  · have moved : w.doLinkDisable = w.disabling.streamsDown := onLink on
    refine ⟨w.disabling.streamsDown.withMgmt m, w.disabling.withMgmt m, ?_,
      State.streamsWentDown_withMgmt w.disabling.streamsWentDown_streamsDown m, ?_, fun training => ?_, fun up i => ?_⟩
    · rw [disable, moved]
    · have events : (w.put .linkDown none 2#20).events = (s.put .linkDown none 2#20).events :=
        State.put_events_congr (s := s) (t := w) rfl _ _ _
      rw [← events]
      rfl
    · have down : w.link.state ≠ .up := fun up => by
        have both : LinkState.training = .up := training.symm.trans up
        cases both
      exact if_neg down
    · exact w.stream_disabling up i
  · refine ⟨_, retrain (if_pos up) .linkRetrained, ?_⟩
    exact State.retrained_withMgmt (State.retrained_retrain (s.withMgmt (s.commandTaken 0x12#8 p)) .command) _

/-! ### The audit commands -/

/-- Settles O53, by R140 and R144. -/
theorem auditCommands : Obligations.AuditCommands := by
  intro p s h st j
  refine ⟨fun send count high range active idle => ?_, fun running => ?_⟩
  · have result : (s.afterWord 0x330#16).auditStartResult p = .done :=
      ((auditStartResult_of (s.afterWord 0x330#16) p).2 send count high range).2 active idle
    exact command_runs h (exec_auditStart p s h.1.1) (takeCommand_auditStart _ p) result .auditStarted
  · have result : (s.afterWord 0x330#16).auditAbortResult = .done := if_neg running
    refine ⟨_, command_runs h (exec_auditAbort p s h.1.1) (takeCommand_auditAbort _ p) result .auditAborted, ?_⟩
    exact State.jobEnded_withMgmt (State.jobEnded_endJob (s.withMgmt (s.commandTaken 0x21#8 p)) .aborted .command
      s.localDigest none) _

/-! ### SOFT_RESET -/

theorem State.slotsInOrder_of_holds {s t : State} (h : t.holds = s.holds) : t.slotsInOrder = s.slotsInOrder := by
  have hold : t.hold = s.hold := funext (State.hold_of_holds h)
  have insert : t.insertSlot = s.insertSlot := funext fun k => funext fun l => State.insertSlot_of_holds h k l
  unfold State.slotsInOrder
  rw [hold, insert]

/-- A soft reset's first steps, from the hold slots answered (R163, R164). -/
theorem State.doSoftReset_eq (s : State) :
    s.doSoftReset = { s with
      streams := (s.mapStreams (fun _ st => st.stopTimers)).streams
      holds := (s.answerHolds s.slotsInOrder).holds
      sp := { channel := s.sp.channel, slotWait := none,
              responses := s.sp.responses ++ (s.slotsInOrder.filterMap s.hold).map HeldWrite.errorResponse }
      link := s.link.stopTimers, audit := s.audit.stopTimers
      engine := { s.engine with state := s.engine.state.withdrawn }, softReset := true } := by
  obtain ⟨frame, -, -⟩ := State.answerHolds_spec s.slotsInOrder s s.slotsInOrder_nodup
  unfold State.doSoftReset
  generalize s.answerHolds s.slotsInOrder = v at frame ⊢
  rw [frame]
  rfl

theorem EngineState.withdrawn_requested (e : EngineState) (i : StreamId) (ses : Session) :
    e.withdrawn ≠ .requested i ses := by
  cases e <;> exact EngineState.noConfusion

theorem EngineState.withdrawn_of (e : EngineState) :
    (∀ i ses, e = .requested i ses → e.withdrawn = .idle) ∧ ((∀ i ses, e ≠ .requested i ses) → e.withdrawn = e) := by
  unfold EngineState.withdrawn
  split
  · next i ses => exact ⟨fun _ _ _ => rfl, fun other => absurd rfl (other i ses)⟩
  · next other => exact ⟨fun i ses e => (other i ses e).elim, fun _ => rfl⟩

theorem State.copyRequest_eq_false (s : State) (h : ∀ i ses, s.engine.state ≠ .requested i ses) :
    s.copyRequest = false := by
  unfold State.copyRequest
  split
  · next i ses e => exact absurd e (h i ses)
  all_goals rfl

theorem State.hold_doSoftReset (s : State) (k : Fin 4) : s.doSoftReset.hold k = none := by
  obtain ⟨-, emptied, others⟩ := State.answerHolds_spec s.slotsInOrder s s.slotsInOrder_nodup
  have holds : s.doSoftReset.holds = (s.answerHolds s.slotsInOrder).holds := by
    rw [State.doSoftReset_eq]
  rw [State.hold_of_holds holds]
  by_cases hk : k ∈ s.slotsInOrder
  · exact emptied k hk
  · refine (others k hk).1 (Option.isSome_eq_false_iff.mp ?_ |> Option.isNone_iff_eq_none.mp)
    rw [s.mem_slotsInOrder] at hk
    simpa using hk

/-- Settles O3, by R131, R163 and R164. -/
theorem softResetBegins : Obligations.SoftResetBegins := by
  intro p s h
  let v := s.withMgmt (s.commandTaken 0x5A#8 p)
  have begun := v.doSoftReset_eq
  have empty := v.hold_doSoftReset
  have streams (i : StreamId) : (v.mapStreams (fun _ st => st.stopTimers)).stream i = (v.stream i).stopTimers :=
    State.stream_mapStreams v _ i
  have order : v.slotsInOrder = s.slotsInOrder := State.slotsInOrder_of_holds rfl
  refine ⟨_, command_runs h (exec_softReset p s h.1.1) (takeCommand_softReset _ p) rfl .softReset, ?_⟩
  dsimp only
  rw [order] at begun
  generalize v.doSoftReset = u at begun empty ⊢
  subst begun
  refine ⟨rfl, rfl, rfl, empty, ?_, fun i ses requested => ?_, fun other => ?_, rfl, streams, rfl, rfl⟩
  · exact State.copyRequest_eq_false _ s.engine.state.withdrawn_requested
  · have idle := s.engine.state.withdrawn_of.1 i ses requested
    exact congrArg (fun e => { s.engine with state := e }) idle
  · have same := s.engine.state.withdrawn_of.2 other
    exact congrArg (fun e => { s.engine with state := e }) same

end Sys2Proof.Machine
end


section
/-! PROOFS. The local completion of a bound write (O28): a record counted down, made VOID, or freed, and the marking that
an ERROR makes. -/

namespace Sys2Proof.Machine

/-! ### Marking -/

/-- A stream with a granule marked: its map takes the granule where it keeps one, and ACTIVE goes to RESYNC (R54,
R125). -/
def Stream.marked (st : Stream) (g : Nat) : Stream :=
  { st with
    dirty := match st.state with
      | .opening | .resync | .active | .degraded => insertGranule g st.dirty
      | .off | .closing | .listen | .bound => st.dirty
    state := if st.state = .active then .resync else st.state
    cause := if st.state = .active then .dirty else st.cause
    reason := if st.state = .active then .none else st.reason }

theorem Stream.marked_active (st : Stream) (g : Nat) (h : st.state = .active) :
    st.marked g = { st with dirty := insertGranule g st.dirty, state := .resync, cause := .dirty, reason := .none } := by
  cases st
  dsimp only at h
  subst h
  rfl

/-- In OPENING, RESYNC and DEGRADED only the map changes (R125). -/
theorem Stream.marked_mapped (st : Stream) (g : Nat)
    (h : st.state = .opening ∨ st.state = .resync ∨ st.state = .degraded) : st.marked g = st.markDirty g := by
  cases st
  dsimp only at h
  rcases h with rfl | rfl | rfl <;> rfl

/-- Outside the states that keep a dirty map nothing changes (R125). -/
theorem Stream.marked_unmapped (st : Stream) (g : Nat)
    (h : st.state = .off ∨ st.state = .closing ∨ st.state = .listen ∨ st.state = .bound) : st.marked g = st := by
  cases st
  dsimp only at h
  rcases h with rfl | rfl | rfl | rfl <;> rfl

theorem State.mark_of_active (s : State) (i : StreamId) (g : Nat) (h : (s.stream i).state = .active) :
    s.mark i g = { s.setStream i ((s.stream i).marked g) with
      audit := (s.abortAudit i).audit, events := (s.abortAudit i).events
      owed := s.owed ++ [stateEvent i .resync .dirty .none] } := by
  rw [Stream.marked_active _ g h, State.mark_active s i g h, State.abortAudit_eq]
  rfl

theorem State.mark_of_not_active (s : State) (i : StreamId) (g : Nat) (h : (s.stream i).state ≠ .active) :
    s.mark i g = s.setStream i ((s.stream i).marked g) := by
  unfold State.mark
  split
  case h_1 e | h_2 e | h_3 e =>
    rw [Stream.marked_mapped _ g (by simp [e])]
    rfl
  case h_4 e => exact absurd e h
  all_goals
    next e =>
    rw [Stream.marked_unmapped _ g (by simp [e]), State.setStream_self]

/-- A marking, as its stream, the audit job and the owed events together (R125). -/
theorem State.mark_parts (s : State) (i : StreamId) (g : Nat) :
    s.mark i g = { s.setStream i ((s.stream i).marked g) with
      audit := (s.mark i g).audit, events := (s.mark i g).events, owed := (s.mark i g).owed } ∧
    ((s.stream i).state = .active → (s.mark i g).owed = s.owed ++ [stateEvent i .resync .dirty .none] ∧
      (s.mark i g).audit = (s.abortAudit i).audit ∧ (s.mark i g).events = (s.abortAudit i).events) ∧
    ((s.stream i).state ≠ .active →
      (s.mark i g).owed = s.owed ∧ (s.mark i g).audit = s.audit ∧ (s.mark i g).events = s.events) := by
  by_cases h : (s.stream i).state = .active
  · rw [s.mark_of_active i g h]
    exact ⟨rfl, fun _ => ⟨rfl, rfl, rfl⟩, fun other => absurd h other⟩
  · rw [s.mark_of_not_active i g h]
    exact ⟨rfl, fun active => absurd active h, fun _ => ⟨rfl, rfl, rfl⟩⟩

/-! ### Records counted down -/

/-- The count of a slot's record goes down (R30). -/
def Stream.countedDown (st : Stream) (slot : Nat) : Stream :=
  st.modRecord slot (fun r => { r with pendingWrites := r.pendingWrites - 1 })

theorem Record.completed_eq (x : Record) :
    x.completed = { x with
      pendingWrites := x.pendingWrites - 1
      state := if x.pendingWrites - 1 = 0 ∧ x.state = .captured then .ready else x.state } := by
  unfold Record.completed Record.settled
  dsimp only
  split <;> rfl

theorem Record.voided_completed_eq (x : Record) :
    x.voided.completed = { x with
      kind := .void, payload := [], pendingWrites := x.pendingWrites - 1
      state := if x.pendingWrites - 1 = 0 ∧ x.state = .captured then .ready else x.state } := by
  rw [Record.completed_eq]
  rfl

theorem Stream.filter_countedDown (st : Stream) (slot : Nat) :
    (st.countedDown slot).sendList.filter (fun r => r.slot != slot) = st.sendList.filter (fun r => r.slot != slot) := by
  unfold Stream.countedDown Stream.modRecord
  dsimp only
  induction st.sendList with
  | nil => rfl
  | cons r rest ih =>
    by_cases hr : r.slot = slot
    · simp [hr, ih]
    · simp [hr, ih]

/-! ### Flagged records freed -/

/-- The stream with a slot's record freed and those that remain closed up; CLOSING drained with it owes its CLOSE (R32,
R59). -/
def Stream.slotFreed (st : Stream) (slot : Nat) : Stream :=
  let left := closeUp (st.sendList.filter (fun r => r.slot != slot))
  { st with
    sendList := left, retryCount := if st.state = .closing ∧ left = [] then 0 else st.retryCount
    handshakeDue := st.handshakeDue || decide (st.state = .closing ∧ left = []) }

theorem State.freeFlagged_of (s : State) (i : StreamId) (slot : Nat)
    (h : ∃ r ∈ (s.stream i).sendList, r.slot = slot ∧ r.discard = true ∧ r.pendingWrites = 0) :
    s.freeFlagged i slot = { s.setStream i ((s.stream i).slotFreed slot) with
      pool := s.pool.freed s.global.poolLowThreshold [slot] } := by
  have found : ((s.stream i).sendList.find? (fun r => r.slot == slot && r.discard && r.pendingWrites == 0)).isSome := by
    obtain ⟨r, mem, same, flag, none_⟩ := h
    exact List.find?_isSome.mpr ⟨r, mem, by simp [same, flag, none_]⟩
  obtain ⟨r, hr⟩ := Option.isSome_iff_exists.mp found
  unfold State.freeFlagged
  rw [hr]
  dsimp only
  rw [State.drained_eq, State.freeSlots_eq]
  simp only [State.modStream, State.stream, State.setStream, vector_get_set, if_true, Vector.set_set]
  rfl

theorem State.freeFlagged_not (s : State) (i : StreamId) (slot : Nat)
    (h : ¬ ∃ r ∈ (s.stream i).sendList, r.slot = slot ∧ r.discard = true ∧ r.pendingWrites = 0) :
    s.freeFlagged i slot = s := by
  have nothing : (s.stream i).sendList.find? (fun r => r.slot == slot && r.discard && r.pendingWrites == 0) = none := by
    refine List.find?_eq_none.mpr fun r mem flagged => h ⟨r, mem, ?_⟩
    simpa [and_assoc] using flagged
  unfold State.freeFlagged
  rw [nothing]

/-- A freeing touches its stream and the pool alone. -/
theorem State.freeFlagged_only (s : State) (i : StreamId) (slot : Nat) :
    s.freeFlagged i slot = { s with
      streams := (s.freeFlagged i slot).streams, pool := (s.freeFlagged i slot).pool } ∧
    ∀ j, j ≠ i → (s.freeFlagged i slot).stream j = s.stream j := by
  by_cases h : ∃ r ∈ (s.stream i).sendList, r.slot = slot ∧ r.discard = true ∧ r.pendingWrites = 0
  · rw [s.freeFlagged_of i slot h]
    exact ⟨rfl, fun j hj => s.stream_setStream_ne i j _ hj⟩
  · rw [s.freeFlagged_not i slot h]
    exact ⟨rfl, fun _ _ => rfl⟩

/-- In a partitioned pool a slot's record still counting is not freed (R21, R32). -/
theorem Stream.counting_countedDown (st : Stream) (slot : Nat) (y : Record) (distinct : st.slots.Nodup)
    (hy : st.sendList.find? (fun x => x.slot == slot) = some y) (h : 1 < y.pendingWrites) :
    ¬ ∃ r ∈ (st.countedDown slot).sendList, r.slot = slot ∧ r.discard = true ∧ r.pendingWrites = 0 := by
  rintro ⟨r, mem, same, -, none_⟩
  obtain ⟨x, hx, rfl⟩ := List.mem_map.mp mem
  have own : x.slot = slot := by
    by_contra hs
    rw [if_neg hs] at same
    exact hs same
  have found : y.slot = slot := by simpa using List.find?_some hy
  have eq : x = y := List.inj_on_of_nodup_map distinct hx (List.mem_of_find?_eq_some hy) (own.trans found.symm)
  subst eq
  rw [if_pos own] at none_
  dsimp only at none_
  omega

/-- The last pending write of a flagged record completes (R32). -/
theorem Stream.complete_countedDown (st : Stream) (slot : Nat) (y : Record)
    (hy : st.sendList.find? (fun x => x.slot == slot) = some y) (flag : y.discard = true) (h : y.pendingWrites = 1) :
    ∃ r ∈ (st.countedDown slot).sendList, r.slot = slot ∧ r.discard = true ∧ r.pendingWrites = 0 := by
  have found : y.slot = slot := by simpa using List.find?_some hy
  refine ⟨_, List.mem_map.mpr ⟨y, List.mem_of_find?_eq_some hy, if_pos found⟩, found, flag, ?_⟩
  dsimp only
  rw [h]

theorem Stream.slotFreed_of {st w : Stream} {slot : Nat}
    (list : w.sendList.filter (fun r => r.slot != slot) = st.sendList.filter (fun r => r.slot != slot))
    (state : w.state = .closing ↔ st.state = .closing) (retry : w.retryCount = st.retryCount)
    (due : w.handshakeDue = st.handshakeDue) :
    w.slotFreed slot = { w with
      sendList := (st.slotFreed slot).sendList, retryCount := (st.slotFreed slot).retryCount
      handshakeDue := (st.slotFreed slot).handshakeDue } := by
  unfold Stream.slotFreed
  simp only [list, state, retry, due]

/-! ### The completion -/

/-- The state at a through response, its tag free and its answer queued. -/
def State.responded (s : State) (t : MpTag) (m : MpRequest) (st : Status) (d : LineBytes) : State :=
  (s.retireTag t).respond (Fin.ofNat 16 t.val) st (responseData m.op m.addr st d)

theorem exec_boundResponse (t : MpTag) (st : Status) (d : LineBytes) (m : MpRequest) (i : StreamId) (slot : Nat)
    (s : State) (h : s.resetAsserted = false) (hm : s.mp.outstanding.find? (fun m => m.tag == t) = some m)
    (owner : m.owner = .through (.bound i slot)) :
    exec (.mpResponse t st d) s = .next (settle ((s.responded t m st d).localComplete i slot st)) := by
  rw [exec_mpResponse t st d s h, mpResponse_of s t st d m hm, deliver_through _ m _ st d owner, tag_of_find hm]
  rfl

/-- The completion of a write, by its status and its record's discard flag (R30, R31, R32). -/
theorem State.localComplete_of (s : State) (i : StreamId) (slot : Nat) (y : Record)
    (hy : (s.stream i).sendList.find? (fun x => x.slot == slot) = some y) :
    (y.discard = false →
      s.localComplete i slot .okay = s.setStream i ((s.stream i).modRecord slot Record.completed) ∧
      s.localComplete i slot .error =
        ((s.setStream i ((s.stream i).modRecord slot (fun r => r.voided.completed))).markLine i y.line).memError i
          y.line) ∧
    (y.discard = true →
      s.localComplete i slot .okay = (s.setStream i ((s.stream i).countedDown slot)).freeFlagged i slot ∧
      s.localComplete i slot .error =
        (((s.setStream i ((s.stream i).countedDown slot)).memError i y.line).markLine i y.line).freeFlagged i slot) := by
  unfold State.localComplete
  rw [hy]
  refine ⟨fun flag => ?_, fun flag => ?_⟩
  · simp only [flag, Bool.false_eq_true, if_false]
    exact ⟨rfl, rfl⟩
  · simp only [flag, if_true]
    exact ⟨rfl, rfl⟩

/-- Settles O28, by R30, R31, R32 and R125. -/
theorem localCompletion : Obligations.LocalCompletion := by
  refine ⟨fun t d m i slot y s h hm owner hy => ?_, fun t d m i slot y s h hm owner hy flag => ?_,
    fun t d m i slot y s h hm owner hy flag => ?_⟩
  · intro left drained
    let v := s.responded t m .okay d
    obtain ⟨bound, flagged⟩ := v.localComplete_of i slot y hy
    refine ⟨_, exec_boundResponse t .okay d m i slot s h hm owner, ?_⟩
    cases flag : y.discard with
    | false =>
      rw [(bound flag).1]
      refine ⟨rfl, fun j hj => v.stream_setStream_ne i j _ hj, fun _ => ⟨rfl, ?_⟩,
        fun e => absurd e Bool.false_ne_true, fun e => absurd e Bool.false_ne_true⟩
      rw [State.stream_setStream]
      unfold Stream.modRecord
      simp only [Record.completed_eq] <;> rfl
    | true =>
      rw [(flagged flag).1]
      let w := v.setStream i ((v.stream i).countedDown slot)
      have own : w.stream i = (s.stream i).countedDown slot := v.stream_setStream i _
      obtain ⟨frame, others⟩ := w.freeFlagged_only i slot
      refine ⟨frame, fun j hj => (others j hj).trans (v.stream_setStream_ne i j _ hj),
        fun e => absurd e.symm Bool.false_ne_true,
        fun _ more hs => ?_, fun _ last => ?_⟩
      · have counting := Stream.counting_countedDown _ slot y (s.slots_nodup i hs) hy more
        rw [← own] at counting
        rw [show State.freeFlagged _ i slot = w from w.freeFlagged_not i slot counting]
        exact ⟨rfl, own⟩
      · have complete := Stream.complete_countedDown _ slot y hy flag last
        rw [← own] at complete
        rw [show State.freeFlagged _ i slot = _ from w.freeFlagged_of i slot complete]
        refine ⟨rfl, (w.stream_setStream i _).trans ?_⟩
        rw [own]
        exact Stream.slotFreed_of (st := s.stream i) (Stream.filter_countedDown _ slot) Iff.rfl rfl rfl
  · let v := s.responded t m .error d
    let a := (s.stream i).modRecord slot (fun r => r.voided.completed)
    let w := v.setStream i a
    have own : w.stream i = a := v.stream_setStream i a
    have done := ((v.localComplete_of i slot y hy).1 flag).2
    have list : a.sendList = (s.stream i).sendList.map (fun x : Record =>
        if x.slot = slot then
          { x with kind := .void, payload := [], pendingWrites := x.pendingWrites - 1
                   state := if x.pendingWrites - 1 = 0 ∧ x.state = .captured then .ready else x.state }
        else x) := by
      simp only [a, Stream.modRecord, Record.voided_completed_eq]
    obtain ⟨parts, moves, stays⟩ := w.mark_parts i ((w.stream i).cfg.granuleOf y.line)
    rw [own] at parts moves stays
    have put := State.put_eq (w.mark i (a.cfg.granuleOf y.line)) .memError (some i) y.line
    have marks : (v.setStream i ((v.stream i).modRecord slot (fun r => r.voided.completed))).markLine i y.line =
        w.mark i (a.cfg.granuleOf y.line) :=
      congrArg (fun x : Stream => w.mark i (x.cfg.granuleOf y.line)) own
    refine ⟨_, exec_boundResponse t .error d m i slot s h hm owner, ?_⟩
    rw [show State.localComplete _ i slot .error = _ from done, marks]
    unfold State.memError
    rw [put]
    generalize w.mark i (a.cfg.granuleOf y.line) = x at parts moves stays ⊢
    have streams : x.streams = (w.setStream i (a.marked (a.cfg.granuleOf y.line))).streams :=
      (congrArg State.streams parts :)
    have mine : x.stream i = a.marked (a.cfg.granuleOf y.line) :=
      (State.stream_of_streams _ x streams i).trans (w.stream_setStream i _)
    have same (j : StreamId) (hj : j ≠ i) : x.stream j = s.stream j :=
      (State.stream_of_streams _ x streams j).trans
        ((w.stream_setStream_ne i j _ hj).trans (v.stream_setStream_ne i j _ hj))
    refine ⟨?_, same, ?_, ?_, fun active => ?_, fun other => ?_⟩
    · generalize (x.put .memError (some i) y.line).events = e
      rw [parts]
      rfl
    · generalize (x.put .memError (some i) y.line).events = e
      have mine' : ({ x with events := e } : State).stream i = a.marked (a.cfg.granuleOf y.line) := mine
      rw [mine', ← list]
      rfl
    · exact congrArg Stream.dirty mine
    · obtain ⟨owed, audit, events⟩ := moves active
      have marked := a.marked_active (a.cfg.granuleOf y.line) active
      rw [marked] at mine
      refine ⟨congrArg Stream.state mine, congrArg Stream.cause mine, congrArg Stream.reason mine, owed,
        s.abortAudit i, s.auditLeft_abortAudit i, ?_, ?_⟩
      · have left := State.abortAudit_of (s := s) (t := w) rfl rfl i
        rw [left] at audit
        exact audit
      · have left := State.abortAudit_of (s := s) (t := w) rfl rfl i
        rw [left] at events
        exact State.put_events_congr (s := s.abortAudit i) (t := x) events .memError (some i) y.line
    · obtain ⟨owed, audit, events⟩ := stays other
      have keeps : ¬ a.state = .active := other
      refine ⟨?_, ?_, ?_, owed, audit,
        State.put_events_congr (s := s) (t := x) events .memError (some i) y.line⟩
      · exact (congrArg Stream.state mine).trans (if_neg keeps)
      · exact (congrArg Stream.cause mine).trans (if_neg keeps)
      · exact (congrArg Stream.reason mine).trans (if_neg keeps)
  · intro left drained moves marked
    let v := s.responded t m .error d
    let a := (s.stream i).countedDown slot
    let e := (s.put .memError (some i) y.line).events
    let w : State := { v.setStream i a with events := e }
    have own : w.stream i = a := v.stream_setStream i a
    have done := ((v.localComplete_of i slot y hy).2 flag).2
    have put : (v.setStream i a).memError i y.line = w := by
      unfold State.memError
      rw [State.put_eq, State.put_events_congr (s := s) (t := v.setStream i a) rfl]
    have marks : w.markLine i y.line = w.mark i (a.cfg.granuleOf y.line) :=
      congrArg (fun x : Stream => w.mark i (x.cfg.granuleOf y.line)) own
    obtain ⟨parts, toResync, stays⟩ := w.mark_parts i (a.cfg.granuleOf y.line)
    rw [own] at parts toResync stays
    refine ⟨_, exec_boundResponse t .error d m i slot s h hm owner, ?_⟩
    have completes : v.localComplete i slot .error = (w.mark i (a.cfg.granuleOf y.line)).freeFlagged i slot :=
      (done.trans (congrArg (fun x => (State.markLine x i y.line).freeFlagged i slot) put)).trans
        (congrArg (fun x => State.freeFlagged x i slot) marks)
    rw [show State.localComplete _ i slot .error = _ from completes]
    generalize w.mark i (a.cfg.granuleOf y.line) = x at parts toResync stays ⊢
    have streams : x.streams = (w.setStream i (a.marked (a.cfg.granuleOf y.line))).streams :=
      (congrArg State.streams parts :)
    have mine : x.stream i = a.marked (a.cfg.granuleOf y.line) :=
      (State.stream_of_streams _ x streams i).trans (w.stream_setStream i _)
    have same (j : StreamId) (hj : j ≠ i) : x.stream j = s.stream j :=
      (State.stream_of_streams _ x streams j).trans
        ((w.stream_setStream_ne i j _ hj).trans (v.stream_setStream_ne i j _ hj))
    have pool : x.pool = s.pool := (congrArg State.pool parts :)
    have global : x.global = s.global := (congrArg State.global parts :)
    have list : (x.stream i).sendList = a.sendList := by
      rw [mine]
      rfl
    obtain ⟨frame, others⟩ := x.freeFlagged_only i slot
    refine ⟨?_, fun j hj => (others j hj).trans (same j hj), fun more hs => ?_, fun last => ?_, fun active => ?_,
      fun other => ?_⟩
    · generalize x.freeFlagged i slot = u at frame ⊢
      rw [frame, parts]
      rfl
    · have counting := Stream.counting_countedDown _ slot y (s.slots_nodup i hs) hy more
      rw [x.freeFlagged_not i slot (by rw [list]; exact counting)]
      exact ⟨pool, mine⟩
    · have complete := Stream.complete_countedDown _ slot y hy flag last
      rw [x.freeFlagged_of i slot (by rw [list]; exact complete), pool, global]
      refine ⟨rfl, (x.stream_setStream i _).trans ?_⟩
      rw [mine]
      refine Stream.slotFreed_of (st := s.stream i) (Stream.filter_countedDown _ slot) ?_ rfl rfl
      change (if (s.stream i).state = .active then StreamState.resync else (s.stream i).state) = .closing ↔ _
      split
      · next active => simp [active]
      · rfl
    · obtain ⟨owed, audit, events⟩ := toResync active
      have left := w.auditLeft_abortAudit i
      have audit' : (x.freeFlagged i slot).audit = x.audit := (congrArg State.audit frame :)
      have events' : (x.freeFlagged i slot).events = x.events := (congrArg State.events frame :)
      have owed' : (x.freeFlagged i slot).owed = x.owed := (congrArg State.owed frame :)
      exact ⟨owed'.trans owed, State.auditLeft_of (t := w) rfl rfl
        (left.congr (audit'.trans audit) (events'.trans events))⟩
    · obtain ⟨owed, audit, events⟩ := stays other
      exact ⟨(congrArg State.owed frame :).trans owed, (congrArg State.audit frame :).trans audit,
        (congrArg State.events frame :).trans events⟩

end Sys2Proof.Machine
end


section
/-! PROOFS. A copy read's response (O30): an error, a record offered, and the entry to ACTIVE. -/

namespace Sys2Proof.Machine

/-! ### Hold slots in the same order -/

/-- The taking order depends on each slot's rank alone. -/
theorem State.slotsInOrder_of_rank {s t : State} (full : ∀ k, (t.hold k).isSome = (s.hold k).isSome)
    (order : ∀ k, t.holdOrder k = s.holdOrder k) : t.slotsInOrder = s.slotsInOrder := by
  have insert (k : Fin 4) (l : List (Fin 4)) : t.insertSlot k l = s.insertSlot k l := by
    induction l with
    | nil => rfl
    | cons j rest ih => simp only [State.insertSlot, order, ih]
  have insert' : t.insertSlot = s.insertSlot := funext fun k => funext fun l => insert k l
  unfold State.slotsInOrder
  simp only [full, insert']

/-- Held writes with other marks stand in the same order, each of its stream. -/
theorem State.heldSlots_of_marks {s t : State} {f : HeldWrite → HeldWrite} (hold : ∀ k, t.hold k = (s.hold k).map f)
    (order : ∀ h, (f h).order = h.order) (stream : ∀ h, (f h).stream = h.stream) (i : StreamId) :
    t.heldSlots i = s.heldSlots i := by
  have own : t.holdsStream i = s.holdsStream i := funext fun k => by
    unfold State.holdsStream
    rw [hold]
    cases s.hold k with
    | none => rfl
    | some h => exact congrArg (· == i) (stream h)
  have slots : t.slotsInOrder = s.slotsInOrder := by
    refine State.slotsInOrder_of_rank (fun k => by rw [hold, Option.isSome_map]) fun k => ?_
    unfold State.holdOrder
    rw [hold]
    cases s.hold k with
    | none => rfl
    | some h => exact order h
  unfold State.heldSlots
  rw [own, slots]

/-- No held write of the list holds its release condition: the test changes nothing (R117). -/
theorem State.testHolds_of_kept (l : List (Fin 4)) (s : State)
    (h : ∀ k ∈ l, ∀ w, s.hold k = some w → s.releasable w = false) : s.testHolds l = s := by
  induction l with
  | nil => rfl
  | cons k rest ih =>
    have tail := ih fun j hj => h j (List.mem_cons_of_mem k hj)
    unfold State.testHolds
    cases hk : s.hold k with
    | none => exact tail
    | some w =>
      dsimp only
      rw [if_neg (by rw [h k List.mem_cons_self w hk]; exact Bool.false_ne_true), tail]

/-! ### The entry to ACTIVE -/

/-- A held write with its mark raised to a seq, where it is of the stream (R117). -/
def HeldWrite.raised (w : HeldWrite) (i : StreamId) (q : Seq) : HeldWrite :=
  if w.stream = i then { w with mark := some q } else w

theorem HeldWrite.raised_order (w : HeldWrite) (i : StreamId) (q : Seq) : (w.raised i q).order = w.order := by
  unfold HeldWrite.raised
  split <;> rfl

theorem HeldWrite.raised_stream (w : HeldWrite) (i : StreamId) (q : Seq) : (w.raised i q).stream = w.stream := by
  unfold HeldWrite.raised
  split <;> rfl

theorem State.raiseMarks_of (s : State) (i : StreamId) (y : Record) (h : (s.stream i).youngest? = some y) :
    s.raiseMarks i = { s with holds := (s.raiseMarks i).holds } ∧
    ∀ k, (s.raiseMarks i).hold k = (s.hold k).map (fun w => w.raised i y.seq) := by
  have raised : s.raiseMarks i = { s with holds := holdTable (fun j => (s.hold j).map (fun w => w.raised i y.seq)) } := by
    unfold State.raiseMarks
    rw [h]
    rfl
  rw [raised]
  exact ⟨rfl, fun k => holdTable_get _ k⟩

/-! ### Copy reads -/

theorem deliver_copy (s : State) (m : MpRequest) (st : Status) (d : LineBytes) (h : m.owner = .copy) :
    s.deliver m st d = s.copyResponse st d := by
  rw [State.deliver, h]

theorem copyResponse_of (s : State) (st : Status) (d : LineBytes) (r : CopyRead) (h : s.engine.state = .reading r)
    (live : s.softReset = false) : s.copyResponse st d = (s.setEngine .idle).copyCompleted r st d := by
  unfold State.copyResponse
  rw [h]
  dsimp only
  rw [if_neg (by rw [live]; exact Bool.false_ne_true)]

theorem State.copyCurrent_iff (s : State) (r : CopyRead) :
    s.copyCurrent r = true ↔ (s.stream r.stream).state = .resync ∧ (s.stream r.stream).session = r.session := by
  unfold State.copyCurrent
  simp

/-- A granule under copy that is marked is left dirty by an entry to DEGRADED in either way (R56). -/
theorem State.enteredDegraded_of_marked {s t u : State} {i : StreamId} {c : Cause} {r : Reason} {p : CopyPos}
    (pos : (s.stream i).copyPos = some p)
    (marks : t = s.setStream i { s.stream i with dirty := insertGranule p.granule (s.stream i).dirty })
    (h : t.enteredDegraded u i c r) : s.enteredDegraded u i c r := by
  subst marks
  obtain ⟨own, list, dirty, others, pool, answered, owed, engine, audit, frame⟩ := h
  rw [State.stream_setStream] at own list dirty pool
  refine ⟨own, list, fun g => (dirty g).trans ?_, fun j hj => (others j hj).trans (s.stream_setStream_ne i j _ hj), pool,
    State.holdsAnswered_of (by rfl) (by rfl) answered, owed, engine, State.auditLeft_of (by rfl) (by rfl) audit, frame⟩
  unfold Stream.degradedDirty
  dsimp only
  rw [mem_insertGranule, pos]
  constructor
  · rintro ((rfl | mem) | rest)
    · exact .inr (.inr ⟨p, rfl, rfl⟩)
    · exact .inl mem
    · exact .inr rest
  · rintro (mem | rest)
    · exact .inl (.inr mem)
    · exact .inr rest

/-- An error of a current copy read: its granule, marked already, is dirty in DEGRADED (R134). -/
theorem State.enteredDegraded_copyFailed (s : State) (r : CopyRead) (h : (s.stream r.stream).state = .resync) :
    (s.memError r.stream r.line).enteredDegraded (s.copyFailed r) r.stream .copyError .none := by
  let v := s.memError r.stream r.line
  have same : v.stream r.stream = s.stream r.stream := by
    have put := State.put_eq s .memError (some r.stream) r.line
    have e : v = s.put .memError (some r.stream) r.line := rfl
    rw [e, put]
    rfl
  have state : (v.stream r.stream).state = .resync := by rw [same, h]
  cases pos : (v.stream r.stream).copyPos with
  | none =>
    have failed : s.copyFailed r = v.toDegraded r.stream .copyError .none := by
      unfold State.copyFailed
      dsimp only
      rw [show (State.stream _ r.stream).copyPos = none from pos]
    rw [failed]
    exact v.enteredDegraded_toDegraded r.stream .copyError .none
  | some p =>
    have failed : s.copyFailed r = (v.mark r.stream p.granule).toDegraded r.stream .copyError .none := by
      unfold State.copyFailed
      dsimp only
      rw [show (State.stream _ r.stream).copyPos = some p from pos]
    rw [failed]
    exact State.enteredDegraded_of_marked pos (v.mark_resync r.stream p.granule state)
      (State.enteredDegraded_toDegraded _ r.stream .copyError .none)

theorem State.offerCopy_of (s : State) (i : StreamId) (line : LineIndex) (p : Payload) (slot : Nat) (rest : List Nat)
    (allowed : s.slotAllowed i = true) (free : s.pool.freeList = slot :: rest) :
    s.offerCopy i line p = some (s.appended i rest
      { slot := slot, stream := i, session := (s.stream i).session, seq := (s.stream i).nextSeq, kind := .copy
        line := line, payload := p, state := .ready, pendingWrites := 0, discard := false, deadline := none }) := by
  unfold State.offerCopy
  rw [if_pos allowed, free]
  dsimp only
  rw [State.create_eq s i slot rest _ rfl]
  rfl

theorem State.offerCopy_refused (s : State) (i : StreamId) (line : LineIndex) (p : Payload)
    (refused : s.slotAllowed i = false) : s.offerCopy i line p = none := by
  unfold State.offerCopy
  rw [if_neg (by rw [refused]; exact Bool.false_ne_true)]

theorem State.stream_appended (s : State) (i : StreamId) (rest : List Nat) (y : Record) :
    (s.appended i rest y).stream i = { s.stream i with
      sendList := (s.stream i).sendList.map (fun x : Record => { x with deadline := none }) ++ [y]
      nextSeq := (s.stream i).nextSeq + 1
      cursor := some ((s.stream i).cursor.getD (s.stream i).nextSeq) } := s.stream_setStream i _

/-! ### The record created -/

theorem Stream.advanceCopy_of (st : Stream) (p : CopyPos) (h : st.copyPos = some p) :
    st.advanceCopy = { st with
      copyPos := if p.line + 1 < st.cfg.linesPerGranule then some { p with line := p.line + 1 } else none } := by
  unfold Stream.advanceCopy
  rw [h]

theorem Stream.advanceCopy_copyPos_eq_none (st : Stream) (p : CopyPos) (h : st.copyPos = some p) :
    st.advanceCopy.copyPos = none ↔ st.cfg.linesPerGranule ≤ p.line + 1 := by
  rw [st.advanceCopy_of p h]
  dsimp only
  split
  · next lt => exact ⟨fun e => (nomatch e), fun le => absurd lt (Nat.not_lt.mpr le)⟩
  · next ge => exact ⟨fun _ => Nat.le_of_not_lt ge, fun _ => rfl⟩

theorem State.copyCreated_of (s : State) (i : StreamId) (p : CopyPos) (h : (s.stream i).copyPos = some p) :
    (¬((s.stream i).cfg.linesPerGranule ≤ p.line + 1 ∧ (s.stream i).dirty = []) →
      s.copyCreated i = s.setStream i (s.stream i).advanceCopy) ∧
    ((s.stream i).cfg.linesPerGranule ≤ p.line + 1 → (s.stream i).dirty = [] →
      s.copyCreated i = (s.setStream i { s.stream i with copyPos := none }).toActive i) := by
  have own : (s.modStream i Stream.advanceCopy).stream i = (s.stream i).advanceCopy := s.stream_modStream i _
  have pos := (s.stream i).advanceCopy_copyPos_eq_none p h
  have dirty : (s.stream i).advanceCopy.dirty = (s.stream i).dirty := by rw [(s.stream i).advanceCopy_of p h]
  unfold State.copyCreated
  dsimp only
  rw [own]
  refine ⟨fun goes => if_neg fun both => goes ⟨pos.mp both.1, dirty.symm.trans both.2⟩, fun last clean => ?_⟩
  rw [if_pos ⟨pos.mpr last, dirty.trans clean⟩, State.modStream, (s.stream i).advanceCopy_of p h,
    if_neg (Nat.not_lt.mpr last)]

theorem State.copyCompleted_of (s : State) (r : CopyRead) (d : LineBytes) :
    (s.copyCurrent r = false → s.copyCompleted r .error d = s.memError r.stream r.line ∧ s.copyCompleted r .okay d = s) ∧
    (s.copyCurrent r = true → s.copyCompleted r .error d = s.copyFailed r ∧
      (r.spoiled = true ∨ s.slotAllowed r.stream = false → s.copyCompleted r .okay d = s) ∧
      ∀ u, r.spoiled = false → s.offerCopy r.stream r.line (Payload.ofLine d) = some u →
        s.copyCompleted r .okay d = u.copyCreated r.stream) := by
  unfold State.copyCompleted
  refine ⟨fun other => ?_, fun now => ?_⟩
  · rw [if_neg (by rw [other]; exact Bool.false_ne_true), if_neg (by rw [other]; exact Bool.false_ne_true)]
    exact ⟨rfl, rfl⟩
  · rw [if_pos now, if_pos now]
    refine ⟨rfl, fun dropped => ?_, fun u fresh offered => ?_⟩
    · rcases dropped with spoiled | refused
      · exact if_pos spoiled
      · rw [s.offerCopy_refused r.stream r.line (Payload.ofLine d) refused]
        exact ite_self s
    · dsimp only
      rw [if_neg (by rw [fresh]; exact Bool.false_ne_true), offered]

/-- The entry to ACTIVE, its held writes' marks raised but none yet tested (R54, R117). -/
def State.activated (s : State) (i : StreamId) : State := (s.changeState i .active .clean .none).raiseMarks i

theorem State.toActive_eq (s : State) (i : StreamId) :
    s.toActive i = (s.activated i).testHolds ((s.activated i).heldSlots i) := rfl

theorem State.activated_of (s : State) (i : StreamId) (y : Record) (h : (s.stream i).youngest? = some y) :
    s.activated i = { s.setStream i { s.stream i with state := .active, cause := .clean, reason := .none } with
      holds := (s.activated i).holds, owed := s.owed ++ [stateEvent i .active .clean .none] } ∧
    (∀ k, (s.activated i).hold k = (s.hold k).map (fun w => w.raised i y.seq)) ∧
    (s.activated i).heldSlots i = s.heldSlots i := by
  have youngest : ((s.changeState i .active .clean .none).stream i).youngest? = some y := by
    rw [State.stream_changeState]
    exact h
  obtain ⟨frame, hold⟩ := State.raiseMarks_of _ i y youngest
  exact ⟨frame, hold, State.heldSlots_of_marks (s := s) (f := fun w => w.raised i y.seq) hold
    (fun w => w.raised_order i y.seq) (fun w => w.raised_stream i y.seq) i⟩

/-- Settles O30, by R132 to R135. -/
theorem copyReadResponse : Obligations.CopyReadResponse := by
  intro st d m r s h hm owner reading v current
  have run : exec (.mpResponse 20 st d) s = .next (settle (v.copyCompleted r st d)) := by
    rw [exec_mpResponse 20 st d s h.1, mpResponse_of s 20 st d m hm, deliver_copy _ m st d owner,
      copyResponse_of (s.retireTag 20) st d r reading h.2]
    rfl
  have isCurrent : v.copyCurrent r = true ↔ current := v.copyCurrent_iff r
  refine ⟨fun other => ?_, fun now error => ?_, fun now ok dropped => ?_, fun now ok fresh allowed => ?_⟩
  · have notCurrent : v.copyCurrent r = false := Bool.eq_false_iff.mpr (mt isCurrent.mp other)
    obtain ⟨failed, done⟩ := (v.copyCompleted_of r d).1 notCurrent
    rw [run]
    cases st with
    | okay => rw [done] <;> rfl
    | error =>
      rw [failed, State.memError, State.put_eq, State.put_events_congr (s := s) (t := v) rfl]
      rfl
  · subst error
    obtain ⟨failed, -⟩ := (v.copyCompleted_of r d).2 (isCurrent.mpr now)
    have events := State.put_events_congr (s := s) (t := v) rfl .memError (some r.stream) r.line
    have put : v.memError r.stream r.line =
        { v with events := (s.put .memError (some r.stream) r.line).events } := by
      rw [← events]
      exact State.put_eq v .memError (some r.stream) r.line
    refine ⟨_, run, ?_⟩
    rw [failed, ← put]
    exact v.enteredDegraded_copyFailed r now.1
  · subst ok
    obtain ⟨-, done, -⟩ := (v.copyCompleted_of r d).2 (isCurrent.mpr now)
    rw [run, done dropped]
  · subst ok
    intro slot rest p free pos a
    obtain ⟨-, -, created⟩ := (v.copyCompleted_of r d).2 (isCurrent.mpr now)
    have offered := v.offerCopy_of r.stream r.line (Payload.ofLine d) slot rest allowed free
    have session : (v.stream r.stream).session = r.session := now.2
    rw [session] at offered
    have stream : a.stream r.stream = _ := v.stream_appended r.stream rest _
    have pos' : (a.stream r.stream).copyPos = some p := by
      rw [stream]
      exact pos
    have cfg : (a.stream r.stream).cfg = (s.stream r.stream).cfg := (congrArg Stream.cfg stream :)
    have dirty : (a.stream r.stream).dirty = (s.stream r.stream).dirty := (congrArg Stream.dirty stream :)
    obtain ⟨goes, turns⟩ := a.copyCreated_of r.stream p pos'
    rw [cfg, dirty] at goes turns
    let b := a.setStream r.stream { a.stream r.stream with copyPos := none }
    have ownB : b.stream r.stream = { a.stream r.stream with copyPos := none } := a.stream_setStream r.stream _
    let y : Record :=
      { slot := slot, stream := r.stream, session := r.session, seq := (s.stream r.stream).nextSeq, kind := .copy
        line := r.line, payload := Payload.ofLine d, state := .ready, pendingWrites := 0, discard := false
        deadline := none }
    have youngest : (b.stream r.stream).youngest? = some y := by
      rw [ownB, stream]
      exact List.getLast?_concat
    obtain ⟨frame, hold, slots⟩ := b.activated_of r.stream y youngest
    have slots' : (b.activated r.stream).heldSlots r.stream = s.heldSlots r.stream :=
      slots.trans (State.heldSlots_of_holds (s := s) (t := b) rfl r.stream)
    have active : b.toActive r.stream = (b.activated r.stream).testHolds (s.heldSlots r.stream) := by
      rw [State.toActive_eq, slots']
    have ownW : (b.activated r.stream).stream r.stream =
        { b.stream r.stream with state := .active, cause := .clean, reason := .none } :=
      (State.stream_of_streams _ _ (congrArg State.streams frame :) _).trans (b.stream_setStream r.stream _)
    refine ⟨_, run, ?_⟩
    rw [created a fresh offered]
    refine ⟨fun notLast inside => ?_, fun last clean others => ?_, fun last clean => ?_⟩
    · rw [goes fun both => notLast ⟨Nat.le_antisymm inside both.1, both.2⟩, Stream.advanceCopy_of _ p pos', ← cfg]
    · have nothing : s.heldSlots r.stream = [] := by
        refine List.eq_nil_iff_forall_not_mem.mpr fun k hk => ?_
        obtain ⟨x, hx, own⟩ := (s.mem_heldSlots r.stream k).mp hk
        exact others k x hx own
      rw [turns last.ge clean, active, nothing]
      change (b.activated r.stream).pool.freeList = rest ∧
        (∀ j, j ≠ r.stream → (b.activated r.stream).stream j = s.stream j) ∧
        ((b.activated r.stream).stream r.stream).state = .active ∧
        ((b.activated r.stream).stream r.stream).cause = .clean ∧
        ((b.activated r.stream).stream r.stream).copyPos = none ∧
        ((b.activated r.stream).stream r.stream).sendList.length = _ ∧ (b.activated r.stream).owed = _
      refine ⟨(congrArg (fun x => State.pool x |>.freeList) frame :), fun j hj => ?_, ?_, ?_, ?_, ?_,
        (congrArg State.owed frame :)⟩
      · calc (b.activated r.stream).stream j
          _ = (b.setStream r.stream _).stream j := State.stream_of_streams _ _ (congrArg State.streams frame :) j
          _ = b.stream j := b.stream_setStream_ne r.stream j _ hj
          _ = a.stream j := a.stream_setStream_ne r.stream j _ hj
          _ = s.stream j := v.stream_setStream_ne r.stream j _ hj
      · rw [ownW]
      · rw [ownW]
      · rw [ownW, ownB]
      · rw [ownW, ownB, stream]
        simp only [List.length_append, List.length_map, List.length_singleton]
        rfl
    · rw [turns last.ge clean, active]
      refine ⟨b.activated r.stream, State.releasedInOrder_testHolds _ _, fun before => ?_, hold, ?_⟩
      · refine State.testHolds_of_kept _ _ fun k hk x hx => ?_
        obtain ⟨x', hx', own⟩ := (s.mem_heldSlots r.stream k).mp hk
        have raised : x'.raised r.stream y.seq = { x' with mark := some (s.stream r.stream).nextSeq } := if_pos own
        have held : b.hold k = some x' := hx'
        rw [hold, held, Option.map_some, raised] at hx
        cases hx
        have acked : ((b.activated r.stream).stream x'.stream).ackedSeq = (s.stream r.stream).ackedSeq := by
          rw [own, ownW, ownB, stream]
          rfl
        unfold State.releasable Stream.markReached
        dsimp only
        rw [acked, before, Bool.and_false]
      · refine frame.trans ?_
        rw [ownB, State.setStream_setStream]
        rfl

end Sys2Proof.Machine
end


section
/-! PROOFS. The head at the end of an event: what a taking and a wait leave (O16 to O23 use it), and the service searches
that a taken head leaves in vain. -/

namespace Sys2Proof.Machine

/-! ### The System Port given -/

theorem State.withPort_self (s : State) : s.withPort s.sp s.choices = s := rfl

theorem State.setSlotWait_eq (s : State) (w : Option SlotWait) :
    s.setSlotWait w = s.withPort { s.sp with slotWait := w } s.choices := rfl

/-- Both orders of a search and a draining, where the search has nothing to do before (log 5). -/
theorem State.searchAndDrain_of (s : State) (quiet : s.serviceSearch = s) (drained : Nat → State)
    (h : ∀ n, State.drainHead (s.sp.channel.length + 1) (s.withPort s.sp n) = drained n) :
    ∃ n, s.searchAndDrain = (drained n).serviceSearch := by
  have searched (n : Nat) : (s.withPort s.sp n).serviceSearch = s.withPort s.sp n := by
    rw [State.serviceSearch_withPort, quiet]
  have counted : { s with choices := s.choices + 1 } = s.withPort s.sp (s.choices + 1) := rfl
  unfold State.searchAndDrain
  dsimp only
  rw [counted, searched, h]
  split
  · exact ⟨s.choices + 1, ite_self _⟩
  · refine ⟨s.choices, congrArg State.serviceSearch ?_⟩
    rw [← h, State.withPort_self]

/-! ### A head taken -/

/-- What the taking of a lone head leaves at the end of the event, from the state that its disposition left. -/
def State.afterTaking (u : State) : State := (u.setSlotWait none).flushOwed.serviceSearch

theorem State.channel_afterTaking (u : State) (h : u.sp.channel = []) : u.afterTaking.sp.channel = [] := by
  unfold State.afterTaking
  simpa [State.setSlotWait] using h

theorem State.slotWait_afterTaking (u : State) : u.afterTaking.sp.slotWait = none := by
  unfold State.afterTaking
  simp [State.setSlotWait]

theorem State.afterTaking_searched (u : State) : u.afterTaking.serviceSearch = u.afterTaking :=
  State.serviceSearch_idem _

/-- HEAD_TAKING of a request that is taken at once, its disposition given for each count of free choices. -/
theorem exec_headTaking_taken {r : SpRequest} (s : State) (h : s.headReady r) (taken : State → State)
    (ans : ∀ n, (s.withPort s.sp n).tryHead r = .taken (taken (s.withPort s.sp n)))
    (alone : ∀ n, (taken (s.withPort s.sp n)).sp.channel = []) :
    ∃ n, exec (.headTaking r) s = .next (taken (s.withPort s.sp n)).afterTaking.refreshRequests := by
  obtain ⟨live, settled, channel, wf, -⟩ := h
  have joinedSettled : (s.joinChannel r).settled := s.settled_withPort _ s.choices settled
  have presented : (s.joinChannel r).sp.channel = [r] := by
    unfold State.joinChannel
    rw [channel]
    rfl
  have drained (n : Nat) : State.drainHead ((s.joinChannel r).sp.channel.length + 1)
      ((s.joinChannel r).withPort (s.joinChannel r).sp n) = (taken (s.withPort s.sp n)).afterTaking := by
    let v := (s.withPort s.sp n).joinChannel r
    have dropped : v.dropHead = s.withPort s.sp n := State.dropHead_joinChannel (s.withPort s.sp n) r channel
    have head : v.sp.channel = [r] := presented
    have after := State.channel_afterTaking _ (alone n)
    have here : State.drainHead 2 v = (taken (s.withPort s.sp n)).afterTaking := by
      rw [State.drainHead, head]
      dsimp only
      rw [dropped, ans]
      dsimp only
      have emptied : State.drainHead 1 (taken (s.withPort s.sp n)).afterTaking =
          (taken (s.withPort s.sp n)).afterTaking.setSlotWait none := State.drainHead_of_empty 0 _ after
      refine emptied.trans ?_
      rw [State.setSlotWait, ← State.slotWait_afterTaking]
    rw [presented]
    exact here
  obtain ⟨n, hn⟩ := State.searchAndDrain_of (s.joinChannel r) joinedSettled.2.2 _ drained
  refine ⟨n, ?_⟩
  rw [exec_headTaking r s wf, settle_of_settled (s.joinChannel r) live joinedSettled, hn, State.afterTaking_searched]

/-- A taken head that leaves nothing owed and nothing to search for is gone, and no more (R2). -/
theorem State.tookHead_afterTaking (u : State) (alone : u.sp.channel = []) (owed : u.owed = [])
    (quiet : u.serviceSearch = u) : State.tookHead u u.afterTaking.refreshRequests := by
  have same : u.afterTaking = u.withPort { u.sp with slotWait := none } u.choices := by
    unfold State.afterTaking
    rw [State.flushOwed_of_none (u.setSlotWait none) owed, State.setSlotWait_eq, State.serviceSearch_withPort, quiet]
  rw [same]
  refine State.tookHead_refreshRequests _ _ ?_
  unfold State.tookHead State.withPort
  rw [← alone]

/-! ### A head that waits -/

/-- HEAD_TAKING where the front of the channel waits and no search is due: the request joins the channel, and the
slot-wait timer is as the wait leaves it (R2, R13). -/
theorem exec_headTaking_kept {r head : SpRequest} {rest : List SpRequest} (s : State) (live : s.live)
    (settled : s.settled) (wf : r.wf = true) (front : s.sp.channel ++ [r] = head :: rest) (wait : Option SlotWait)
    (ans : ∀ n, State.drainHead ((s.joinChannel r).sp.channel.length + 1)
      (s.withPort { s.sp with channel := head :: rest } n) =
      s.withPort { s.sp with channel := head :: rest, slotWait := wait } n) :
    ∃ t, exec (.headTaking r) s = .next t ∧ s.keptHead t (head :: rest) wait := by
  have joinedSettled : (s.joinChannel r).settled := s.settled_withPort _ s.choices settled
  have joined (n : Nat) : (s.joinChannel r).withPort (s.joinChannel r).sp n =
      s.withPort { s.sp with channel := head :: rest } n := by
    rw [← front]
    rfl
  obtain ⟨n, hn⟩ := State.searchAndDrain_of (s.joinChannel r) joinedSettled.2.2 _
    (fun n => (congrArg _ (joined n)).trans (ans n))
  refine ⟨_, exec_headTaking r s wf, ?_⟩
  rw [settle_of_settled (s.joinChannel r) live joinedSettled, hn, State.serviceSearch_withPort, settled.2.2]
  rfl

/-- One draining of a channel whose front waits. -/
theorem State.drainHead_waits {head : SpRequest} {rest : List SpRequest} (n : Nat) (s : State)
    (front : s.sp.channel = head :: rest) (ans : s.dropHead.tryHead head = .waits) :
    State.drainHead (n + 1) s = s.setSlotWait none := by
  rw [State.drainHead, front]
  dsimp only
  rw [ans]

theorem State.drainHead_waitsSlot {head : SpRequest} {rest : List SpRequest} (n : Nat) (s : State) (i : StreamId)
    (front : s.sp.channel = head :: rest) (ans : s.dropHead.tryHead head = .waitsSlot i) :
    State.drainHead (n + 1) s = s.waitForSlot i := by
  rw [State.drainHead, front]
  dsimp only
  rw [ans]

/-! ### Searches in vain -/

/-- A stream's granule is started: it has a copy position, or nothing is dirty (R129). -/
theorem Stream.startGranule_eq_self_iff (st : Stream) : st.startGranule = st ↔ st.copyPos ≠ none ∨ st.dirty = [] := by
  unfold Stream.startGranule
  split
  · next g rest pos dirty =>
    have moved : ({ st with copyPos := some { granule := g, line := 0 }, dirty := rest } : Stream) ≠ st := by
      intro e
      have none_ : st.copyPos = some { granule := g, line := 0 } := (congrArg Stream.copyPos e).symm
      rw [pos] at none_
      cases none_
    simp [moved, pos, dirty]
  · next other =>
    refine ⟨fun _ => ?_, fun _ => rfl⟩
    by_contra both
    obtain ⟨pos, dirty⟩ := not_or.mp both
    obtain ⟨g, rest, hd⟩ := List.exists_cons_of_ne_nil dirty
    exact other g rest (not_not.mp pos) hd

theorem State.searchedInVain_of_quiet (s : State) (h : s.serviceSearch = s) (idle : s.engine.state = .idle)
    (soft : s.softReset = false) : s.searchedInVain (cyclicAfter s.engine.pointer) := by
  have made : s.serviceSearch = s.searchOver (cyclicAfter s.engine.pointer) := if_pos ⟨idle, soft⟩
  rw [h] at made
  rcases s.searchOver_result (cyclicAfter s.engine.pointer) [] (fun i hi => nomatch hi) with busy | vain
  · rw [← made] at busy
    exact absurd idle busy
  · rw [← made] at vain
    exact vain

/-- A search that has nothing to do in one state has nothing to do in another that serves no further stream, starts no
further granule and allows no further slot (R128). -/
theorem State.quiet_of_quiet {s u : State} (h : s.serviceSearch = s) (soft : u.softReset = s.softReset)
    (pointer : u.engine.pointer = s.engine.pointer) (idle : u.engine.state = .idle → s.engine.state = .idle)
    (streams : ∀ i, (u.stream i).served = true → (s.stream i).served = true ∧
      ((s.stream i).copyPos ≠ none ∨ (s.stream i).dirty = [] →
        (u.stream i).copyPos ≠ none ∨ (u.stream i).dirty = []) ∧
      (s.slotAllowed i = false → u.slotAllowed i = false)) : u.serviceSearch = u := by
  by_cases hu : u.engine.state = .idle ∧ u.softReset = false
  · have vain := s.searchedInVain_of_quiet h (idle hu.1) (soft ▸ hu.2)
    refine (if_pos hu).trans (State.searchOver_of_vain _ u fun i hi served => ?_)
    rw [pointer] at hi
    obtain ⟨served', started, allowed⟩ := streams i served
    obtain ⟨hs, ha⟩ := vain i hi served'
    exact ⟨(Stream.startGranule_eq_self_iff _).mpr (started ((Stream.startGranule_eq_self_iff _).mp hs)), allowed ha⟩
  · exact if_neg hu

/-- What the search and the slot test read of a stream beside its list stands (R128, R129). -/
def State.sameService (s u : State) (i : StreamId) : Prop :=
  (u.stream i).cfg = (s.stream i).cfg ∧ (u.stream i).state = (s.stream i).state ∧
    (u.stream i).copyPos = (s.stream i).copyPos ∧ (u.stream i).dirty = (s.stream i).dirty

theorem State.sameService_of_stream {s u : State} {i : StreamId} (h : u.stream i = s.stream i) : s.sameService u i := by
  unfold State.sameService
  rw [h]
  exact ⟨rfl, rfl, rfl, rfl⟩

theorem State.quiet_of_sameService {s u : State} (h : s.serviceSearch = s) (soft : u.softReset = s.softReset)
    (pointer : u.engine.pointer = s.engine.pointer) (idle : u.engine.state = .idle → s.engine.state = .idle)
    (same : ∀ i, s.sameService u i) (allowed : ∀ i, s.slotAllowed i = false → u.slotAllowed i = false) :
    u.serviceSearch = u := by
  refine State.quiet_of_quiet h soft pointer idle fun i served => ?_
  obtain ⟨cfg, state, pos, dirty⟩ := same i
  refine ⟨?_, ?_, allowed i⟩
  · rw [← served, Stream.served, Stream.served, cfg, state]
  · rw [pos, dirty]
    exact id

theorem State.idle_of_perform (s : State) (line : Addr) (h : (s.perform line).engine.state = .idle) :
    s.engine.state = .idle := by
  have spoiled : s.engine.state.spoil line = .idle := h
  cases hs : s.engine.state with
  | idle => rfl
  | waiting i | requested i ses | reading c =>
    rw [hs] at spoiled
    cases spoiled

/-! ### Slots after a taken head -/

/-- The slot test reads of the streams which are in OFF, their configuration, the lengths of their lists, and its own
stream's flagged records. -/
theorem State.slotAllowed_of_usage {s t : State} (i : StreamId) (free : t.freeCount = s.freeCount)
    (h : ∀ k, (t.stream k).cfg = (s.stream k).cfg ∧ ((t.stream k).state = .off ↔ (s.stream k).state = .off) ∧
      (t.stream k).usage = (s.stream k).usage)
    (flags : (t.stream i).sendList.all (fun r => !r.discard) = (s.stream i).sendList.all (fun r => !r.discard)) :
    t.slotAllowed i = s.slotAllowed i := by
  have demand : t.outsideDemand i = s.outsideDemand i := by
    unfold State.outsideDemand
    refine congrArg List.sum (List.map_congr_left fun k _ => ?_)
    obtain ⟨cfg, off, usage⟩ := h k
    simp only [cfg, off, usage]
  obtain ⟨cfg, -, usage⟩ := h i
  unfold State.slotAllowed
  rw [free, demand, usage, cfg, flags]

theorem State.slotAllowed_of_lists {s u : State} (i : StreamId) (free : u.freeCount = s.freeCount)
    (same : ∀ k, s.sameService u k)
    (lists : ∀ k, (u.stream k).usage = (s.stream k).usage ∧
      (u.stream k).sendList.all (fun r => !r.discard) = (s.stream k).sendList.all (fun r => !r.discard)) :
    u.slotAllowed i = s.slotAllowed i := by
  refine State.slotAllowed_of_usage i free (fun k => ?_) (lists i).2
  obtain ⟨cfg, state, -, -⟩ := same k
  exact ⟨cfg, by rw [state], (lists k).1⟩

/-- A sum in which one term alone falls, by one at most. -/
theorem sum_le_succ_of_one {α : Type} (l : List α) (i : α) (f g : α → Nat) (distinct : l.Nodup)
    (others : ∀ k, k ≠ i → f k = g k) (own : f i ≤ g i + 1) : (l.map f).sum ≤ (l.map g).sum + 1 := by
  induction l with
  | nil => exact Nat.zero_le _
  | cons k rest ih =>
    obtain ⟨notin, nodup⟩ := List.nodup_cons.mp distinct
    simp only [List.map_cons, List.sum_cons]
    by_cases hk : k = i
    · subst hk
      have same : rest.map f = rest.map g := List.map_congr_left fun j hj => others j fun e => notin (e ▸ hj)
      rw [same]
      omega
    · have tail := ih nodup
      rw [others k hk]
      omega

/-- A slot taken for a stream's new record allows no stream a slot that it was not allowed before (Table 2-3). -/
theorem State.slotAllowed_appended (s : State) (i : StreamId) (slot : Nat) (rest : List Nat) (y : Record)
    (free : s.pool.freeList = slot :: rest) (j : StreamId) (h : s.slotAllowed j = false) :
    (s.appended i rest y).slotAllowed j = false := by
  let u := s.appended i rest y
  have count : s.freeCount = u.freeCount + 1 := congrArg List.length free
  have own := s.stream_appended i rest y
  have others (k : StreamId) (hk : k ≠ i) : u.stream k = s.stream k := s.stream_setStream_ne i k _ hk
  have cfg (k : StreamId) : (u.stream k).cfg = (s.stream k).cfg := s.cfg_setStream i _ (by rfl) k
  have usage : (u.stream i).usage = (s.stream i).usage + 1 := by
    unfold Stream.usage
    rw [show u.stream i = _ from own]
    simp
  have more (k : StreamId) : (s.stream k).usage ≤ (u.stream k).usage := by
    by_cases hk : k = i
    · rw [hk, usage]
      exact Nat.le_succ _
    · rw [others k hk]
  have demand : s.outsideDemand j ≤ u.outsideDemand j + 1 := by
    refine sum_le_succ_of_one allStreams i _ _ (by decide) (fun k hk => by rw [others k hk]) ?_
    have state : (u.stream i).state = (s.stream i).state := by rw [show u.stream i = _ from own]
    rw [state, cfg i, usage]
    split
    · exact Nat.zero_le _
    · omega
  have flags : (u.stream j).sendList.all (fun r => !r.discard) = true →
      (s.stream j).sendList.all (fun r => !r.discard) = true := by
    by_cases hj : j = i
    · rw [hj, show u.stream i = _ from own]
      simp only [List.all_append, List.all_map, Bool.and_eq_true]
      exact fun both => both.1
    · rw [others j hj]
      exact id
  rw [Bool.eq_false_iff] at h ⊢
  refine fun allowed => h ?_
  have allowed' : u.slotAllowed j = true := allowed
  unfold State.slotAllowed at allowed' ⊢
  rw [cfg j] at allowed'
  simp only [Bool.and_eq_true, Bool.or_eq_true, decide_eq_true_eq] at allowed' ⊢
  obtain ⟨⟨⟨some_, limit⟩, room⟩, flagless⟩ := allowed'
  have less := more j
  exact ⟨⟨⟨by omega, by omega⟩, by omega⟩, flags flagless⟩

end Sys2Proof.Machine
end


section
/-! PROOFS. Heads that wait for a tag, a line or a hold slot, heads forwarded without a record, held, or refused (O16,
O17, O22, O23). -/

namespace Sys2Proof.Machine

/-! ### The rows of Table 1-2 -/

/-- A head has passed the checks of Table 1-2 and is classified by window and stream state. -/
def State.headExamined (s : State) (r : SpRequest) : Prop :=
  s.softReset = false ∧ s.tagOutstanding r.tag = false ∧ r.crossesLine = false ∧ r.emptyWrite = false ∧
    s.heldLine (lineOf r.addr) = false

/-- The tags outstanding do not depend on the channel (R1). -/
theorem State.tagOutstanding_withPort (s : State) (p : SystemPort) (n : Nat) (hp : p.responses = s.sp.responses)
    (t : SpTag) : (s.withPort p n).tagOutstanding t = s.tagOutstanding t := by
  have port : (s.withPort p n).sp.responses = s.sp.responses := hp
  unfold State.tagOutstanding
  rw [port]
  rfl

/-- A ready state has nothing owed, nothing to search for, and an empty channel. -/
theorem State.quiet_of_ready {s : State} {r : SpRequest} (h : s.headReady r) :
    s.owed = [] ∧ s.serviceSearch = s ∧ s.sp.channel = [] := by
  obtain ⟨-, ⟨owed, -, quiet⟩, channel, -, -⟩ := h
  exact ⟨owed, quiet, channel⟩

theorem State.headExamined_of_classified {s : State} {r : SpRequest} (h : s.headClassified r) : s.headExamined r := by
  obtain ⟨⟨live, -, -, -, tag⟩, line, empty, held⟩ := h
  exact ⟨live.2, tag, line, empty, held⟩

theorem State.headExamined.withPort {s : State} {r : SpRequest} (h : s.headExamined r) (p : SystemPort) (n : Nat)
    (hp : p.responses = s.sp.responses) : (s.withPort p n).headExamined r := by
  obtain ⟨soft, tag, line, empty, held⟩ := h
  exact ⟨soft, (s.tagOutstanding_withPort p n hp r.tag).trans tag, line, empty, held⟩

theorem State.tryHead_of_examined {s : State} {r : SpRequest} (h : s.headExamined r) : s.tryHead r = s.classify r := by
  obtain ⟨soft, tag, line, empty, held⟩ := h
  unfold State.tryHead
  simp only [soft, tag, line, empty, held, Bool.false_eq_true, if_false]

theorem State.tryHead_of_tag (s : State) (r : SpRequest) (soft : s.softReset = false)
    (tag : s.tagOutstanding r.tag = true) : s.tryHead r = .waits := by
  unfold State.tryHead
  simp only [soft, tag, Bool.false_eq_true, if_false, if_true]

theorem State.tryHead_of_line (s : State) (r : SpRequest) (soft : s.softReset = false) (line : r.crossesLine = false)
    (empty : r.emptyWrite = false) (held : s.heldLine (lineOf r.addr) = true) : s.tryHead r = .waits := by
  cases tag : s.tagOutstanding r.tag with
  | true => exact s.tryHead_of_tag r soft tag
  | false =>
    unfold State.tryHead
    simp only [soft, tag, line, empty, held, Bool.false_eq_true, if_false, if_true]

/-! ### The dispositions of Table 1-5 -/

theorem SpRequest.write_lanes {r : SpRequest} (h : r.isWrite = true) : ∃ lanes, r.op = .write lanes := by
  unfold SpRequest.isWrite at h
  cases hop : r.op with
  | read n =>
    rw [hop] at h
    cases h
  | write lanes => exact ⟨lanes, rfl⟩

theorem SpRequest.isWrite_of {r : SpRequest} {lanes : List Lane} (h : r.op = .write lanes) : r.isWrite = true := by
  unfold SpRequest.isWrite
  rw [h]

theorem State.classify_window (s : State) (r : SpRequest) (lanes : List Lane) (w : Window) (hop : r.op = .write lanes)
    (hw : s.windowOf r.addr = some w) :
    (w.kind = .pass → s.classify r = .taken (s.forwardPlain r)) ∧
    (w.kind = .mirror → s.classify r = s.mirrorHead r w.stream) ∧
    (w.kind = .gated → s.classify r = s.gatedHead r w.stream lanes) ∧
    (w.kind = .guarded → s.classify r = s.guardedHead r w.stream) := by
  unfold State.classify
  rw [hop]
  dsimp only
  rw [hw]
  dsimp only
  refine ⟨fun h => ?_, fun h => ?_, fun h => ?_, fun h => ?_⟩ <;> rw [h]

theorem State.classify_read (s : State) (r : SpRequest) (h : r.isWrite = false) :
    s.classify r = .taken (s.forwardPlain r) := by
  unfold State.classify
  cases hop : r.op with
  | read n => rfl
  | write lanes =>
    rw [SpRequest.isWrite_of hop] at h
    cases h

theorem State.classify_outside (s : State) (r : SpRequest) (h : s.windowOf r.addr = none) :
    s.classify r = .taken (s.forwardPlain r) := by
  cases write : r.isWrite with
  | false => exact s.classify_read r write
  | true =>
    obtain ⟨lanes, hop⟩ := SpRequest.write_lanes write
    unfold State.classify
    rw [hop]
    dsimp only
    rw [h]

/-- The gate is closed (Table 7-1). -/
theorem Stream.gateOpen_eq_false (st : Stream) (h : ¬(st.state = .active ∧ st.markReached st.gateMark = true)) :
    st.gateOpen = false := by
  rw [Bool.eq_false_iff]
  unfold Stream.gateOpen
  simpa using h

theorem State.gatedHead_mirrors (s : State) (r : SpRequest) (i : StreamId) (lanes : List Lane)
    (h : (s.stream i).mirrors) : s.gatedHead r i lanes = s.gateCheck r i lanes := by
  unfold State.gatedHead
  rcases h with h | h <;> rw [h]

theorem State.gateCheck_closed (s : State) (r : SpRequest) (i : StreamId) (lanes : List Lane)
    (h : (s.stream i).gateOpen = false) :
    (∀ k, s.freeHold = some k → s.gateCheck r i lanes = .taken (s.takeHold k i r.tag r.addr lanes)) ∧
    (s.freeHold = none → s.gateCheck r i lanes = .waits) := by
  unfold State.gateCheck
  rw [if_neg (by rw [h]; exact Bool.false_ne_true)]
  exact ⟨fun k free => by rw [free], fun full => by rw [full]⟩

/-! ### Heads that wait -/

theorem State.freeHold_eq_none (s : State) (h : ∀ k, s.hold k ≠ none) : s.freeHold = none := by
  refine List.find?_eq_none.mpr fun k _ empty => h k ?_
  simpa using empty

theorem State.freeHold_of (s : State) (k : Fin 4) (empty : s.hold k = none) (full : ∀ j, j < k → s.hold j ≠ none) :
    s.freeHold = some k := by
  have taken (j : Fin 4) (hj : j < k) : (s.hold j).isNone = false := by
    rw [Option.isNone_eq_false_iff]
    exact Option.isSome_iff_ne_none.mpr (full j hj)
  have free : (s.hold k).isNone = true := Option.isNone_iff_eq_none.mpr empty
  unfold State.freeHold allSlots
  match k with
  | 0 => simp only [List.find?, free]
  | 1 => simp only [List.find?, taken 0 (by decide), free]
  | 2 => simp only [List.find?, taken 0 (by decide), taken 1 (by decide), free]
  | 3 => simp only [List.find?, taken 0 (by decide), taken 1 (by decide), taken 2 (by decide), free]

theorem State.noChannel_of_empty (s : State) (h : s.sp.channel = []) : s.noChannel = s := by
  unfold State.noChannel
  rw [← h]

/-- A head that is blocked waits whatever stands behind it (R1, R17, R115). -/
theorem State.tryHead_blocked (s : State) (r : SpRequest) (soft : s.softReset = false) (h : s.noChannel.headBlocked r)
    (p : SystemPort) (n : Nat) (hp : p.responses = s.sp.responses) : (s.withPort p n).tryHead r = .waits := by
  rcases h with tag | ⟨line, empty, held⟩ | ⟨i, ⟨classified, write, w, hw, kind, own⟩, mirrors, closed, full⟩
  · refine State.tryHead_of_tag _ r soft ?_
    rw [← tag]
    exact s.noChannel.tagOutstanding_withPort p n hp r.tag
  · exact State.tryHead_of_line _ r soft line empty held
  · obtain ⟨lanes, hop⟩ := SpRequest.write_lanes write
    let v := s.noChannel.withPort p n
    have examined : v.headExamined r := (State.headExamined_of_classified classified).withPort p n hp
    have gated : v.classify r = v.gatedHead r w.stream lanes := (v.classify_window r lanes w hop hw).2.2.1 kind
    have shut : (v.stream i).gateOpen = false := Stream.gateOpen_eq_false _ closed
    have here : v.tryHead r = .waits := by
      rw [State.tryHead_of_examined examined, gated, own, State.gatedHead_mirrors v r i lanes mirrors,
        (State.gateCheck_closed v r i lanes shut).2 (v.freeHold_eq_none full)]
    exact here

theorem exec_headTaking_blocked {r head : SpRequest} {rest : List SpRequest} (s : State) (live : s.live)
    (settled : s.settled) (wf : r.wf = true) (front : s.sp.channel ++ [r] = head :: rest)
    (blocked : s.noChannel.headBlocked head) :
    ∃ t, exec (.headTaking r) s = .next t ∧ s.keptHead t (head :: rest) none :=
  exec_headTaking_kept s live settled wf front none fun n =>
    State.drainHead_waits (head := head) (rest := rest) _ _ rfl
      (s.tryHead_blocked head live.2 blocked { s.sp with channel := rest } n rfl)

/-- Settles O16: the checks that make a head wait, and that each end of an event tries it again. -/
theorem headWaits : Obligations.HeadWaits := by
  refine ⟨fun r s live settled empty wf blocked => ?_, fun r head rest s live settled front wf blocked => ?_,
    fun head rest s front wf => ?_⟩
  · refine exec_headTaking_blocked s live settled wf (rest := []) ?_ ?_
    · rw [empty]
      rfl
    · rw [s.noChannel_of_empty empty]
      exact blocked
  · refine exec_headTaking_blocked s live settled wf (rest := rest ++ [r]) ?_ blocked
    rw [front]
    rfl
  · rw [exec_headTaking head _ wf]
    refine next_settle ?_
    unfold State.joinChannel
    rw [← front]

/-! ### Heads forwarded without a record -/

/-- HEAD_TAKING whose disposition leaves nothing owed and nothing to search for (R2). -/
theorem exec_headTaking_quiet {r : SpRequest} (s : State) (h : s.headReady r) (u : State)
    (ans : ∀ n, (s.withPort s.sp n).tryHead r = .taken (u.withPort u.sp n)) (alone : u.sp.channel = [])
    (owed : u.owed = []) (quiet : u.serviceSearch = u) :
    ∃ t, exec (.headTaking r) s = .next t ∧ State.tookHead u t := by
  obtain ⟨n, run⟩ := exec_headTaking_taken s h (fun v => u.withPort u.sp v.choices) ans fun _ => alone
  refine ⟨_, run, ?_⟩
  have quiet' : (u.withPort u.sp n).serviceSearch = u.withPort u.sp n := by
    rw [State.serviceSearch_withPort, quiet]
  exact State.tookHead_afterTaking (u.withPort u.sp n) alone owed quiet'

theorem State.forwardPlain_eq (s : State) (r : SpRequest) :
    s.forwardPlain r = { (if r.isWrite then s.perform (lineOf r.addr) else s) with mp := s.mp.joined r .plain } := by
  unfold State.forwardPlain
  cases write : r.isWrite with
  | true => exact s.forward_write r .plain write
  | false => exact s.forward_read r .plain write

theorem State.classify_unrecorded (s : State) (r : SpRequest)
    (h : r.isWrite = false ∨ s.windowOf r.addr = none ∨ ∃ w, s.windowOf r.addr = some w ∧
      (w.kind = .pass ∨ (w.kind = .mirror ∧ ((s.stream w.stream).state = .off ∨ (s.stream w.stream).state = .closing)) ∨
        (w.kind = .gated ∧ (s.stream w.stream).state = .off) ∨
        (w.kind = .guarded ∧ (s.stream w.stream).state = .off))) :
    s.classify r = .taken (s.forwardPlain r) := by
  cases write : r.isWrite with
  | false => exact s.classify_read r write
  | true =>
    obtain ⟨lanes, hop⟩ := SpRequest.write_lanes write
    rcases h with read | outside | ⟨w, hw, h⟩
    · rw [write] at read
      cases read
    · exact s.classify_outside r outside
    · obtain ⟨pass, mirror, gated, guarded⟩ := s.classify_window r lanes w hop hw
      rcases h with kind | ⟨kind, off | closing⟩ | ⟨kind, off⟩ | ⟨kind, off⟩
      · exact pass kind
      · rw [mirror kind, State.mirrorHead, off]
      · rw [mirror kind, State.mirrorHead, closing]
      · rw [gated kind, State.gatedHead, off]
      · rw [guarded kind, State.guardedHead, off]

/-- A performing event's two notices leave nothing to search for (R19). -/
theorem State.quiet_perform (s : State) (line : Addr) (mp : MemoryPort) (h : s.serviceSearch = s) :
    ({ s.perform line with mp := mp } : State).serviceSearch = { s.perform line with mp := mp } :=
  State.quiet_of_quiet h rfl rfl (s.idle_of_perform line) fun _ served => ⟨served, id, id⟩

theorem State.inAuditSpan_iff (s : State) (line : Addr) :
    s.inAuditSpan line = true ↔ s.audit.initiator.state = .reading ∧
      (s.stream s.audit.initiator.stream).cfg.extentBase.toNat + 64 * s.audit.initiator.firstLine ≤ line.toNat ∧
      line.toNat < (s.stream s.audit.initiator.stream).cfg.extentBase.toNat +
        64 * (s.audit.initiator.firstLine + s.audit.initiator.lineCount) := by
  simp [State.inAuditSpan, and_assoc]

theorem EngineState.spoil_of_not_reading (e : EngineState) (line : Addr)
    (h : ∀ c, e = .reading c → c.lineAddr ≠ line) : e.spoil line = e := by
  unfold EngineState.spoil
  split
  · next c =>
    have other : (c.lineAddr == line) = false := by simpa using h c rfl
    rw [other, Bool.or_false]
  · rfl

/-- Settles O17: the rows of Table 1-5 that forward plainly, and the two notices of R19. -/
theorem unrecordedHeadForwarded : Obligations.UnrecordedHeadForwarded := by
  refine ⟨fun r s h => ?_, fun line s => ⟨fun c reading spoils => ?_, fun others => ?_, fun reading from_ to_ => ?_,
    fun outside => ?_, rfl⟩⟩
  · obtain ⟨classified, row⟩ := h
    have examined := State.headExamined_of_classified classified
    obtain ⟨ready, -⟩ := classified
    obtain ⟨owed, quiet, channel⟩ := State.quiet_of_ready ready
    have ans (n : Nat) : (s.withPort s.sp n).tryHead r =
        .taken (({ (if r.isWrite then s.perform (lineOf r.addr) else s) with
          mp := s.mp.joined r .plain } : State).withPort s.sp n) := by
      rw [State.tryHead_of_examined (examined.withPort s.sp n rfl), State.classify_unrecorded (s.withPort s.sp n) r row,
        State.forwardPlain_eq]
      cases r.isWrite <;> rfl
    cases write : r.isWrite with
    | true =>
      rw [write] at ans
      exact exec_headTaking_quiet s ready _ ans channel owed (s.quiet_perform _ _ quiet)
    | false =>
      rw [write] at ans
      refine exec_headTaking_quiet s ready _ ans channel owed ?_
      exact State.quiet_of_quiet quiet rfl rfl id fun _ served => ⟨served, id, id⟩
  · have spoiled : (s.perform line).engine.state = s.engine.state.spoil line := rfl
    rw [spoiled, reading]
    unfold EngineState.spoil
    dsimp only
    rw [beq_iff_eq.mpr spoils, Bool.or_true]
  · have kept := s.engine.state.spoil_of_not_reading line others
    exact congrArg (fun e => ({ s.engine with state := e } : ResyncEngine)) kept
  · have inside : s.inAuditSpan line = true := (s.inAuditSpan_iff line).mpr ⟨reading, from_, to_⟩
    change (s.audit.initiator.disturbed || s.inAuditSpan line) = true
    rw [inside, Bool.or_true]
  · have kept : s.inAuditSpan line = false := Bool.eq_false_iff.mpr (mt (s.inAuditSpan_iff line).mp outside)
    unfold State.perform
    rw [kept, Bool.or_false]

/-! ### Heads held and refused -/

/-- Settles O22: a closed gate with a free hold slot (Table 7-1, row 2; R115). -/
theorem gatedWriteHeld : Obligations.GatedWriteHeld := by
  intro r lanes i k s h hop mirrors closed empty full
  obtain ⟨classified, write, w, hw, kind, own⟩ := h
  have examined := State.headExamined_of_classified classified
  obtain ⟨ready, -⟩ := classified
  obtain ⟨owed, quiet, channel⟩ := State.quiet_of_ready ready
  let held : HeldWrite :=
    { tag := r.tag, addr := r.addr, lanes := lanes, stream := i, session := (s.stream i).session
      mark := ((s.stream i).sendList.filter (fun y => !y.discard)).getLast?.map Record.seq
      deadline := s.events.time + BitVec.ofNat 32 s.global.holdTimeout, order := s.heldCount + 1 }
  let st : Stream :=
    { s.stream i with sendList := (s.stream i).sendList.map (fun x : Record => { x with deadline := none }) }
  let u := (s.setHold k (some held)).setStream i st
  have ans (n : Nat) : (s.withPort s.sp n).tryHead r = .taken (u.withPort u.sp n) := by
    let v := s.withPort s.sp n
    have gated : v.classify r = v.gatedHead r w.stream lanes := (v.classify_window r lanes w hop hw).2.2.1 kind
    have shut : (v.stream i).gateOpen = false := Stream.gateOpen_eq_false _ closed
    have here : v.tryHead r = .taken (u.withPort u.sp n) := by
      rw [State.tryHead_of_examined (examined.withPort s.sp n rfl), gated, own,
        State.gatedHead_mirrors v r i lanes mirrors,
        (State.gateCheck_closed v r i lanes shut).1 k (v.freeHold_of k empty full)]
      rfl
    exact here
  have own' : u.stream i = st := State.stream_setStream _ i st
  have others (j : StreamId) (hj : j ≠ i) : u.stream j = s.stream j := State.stream_setStream_ne _ i j st hj
  have same (j : StreamId) : s.sameService u j := by
    by_cases hj : j = i
    · unfold State.sameService
      rw [hj, own']
      exact ⟨rfl, rfl, rfl, rfl⟩
    · exact State.sameService_of_stream (others j hj)
  have lists (j : StreamId) : (u.stream j).usage = (s.stream j).usage ∧
      (u.stream j).sendList.all (fun r => !r.discard) = (s.stream j).sendList.all (fun r => !r.discard) := by
    by_cases hj : j = i
    · rw [hj, own']
      refine ⟨List.length_map _, ?_⟩
      simp only [st, List.all_map] <;> rfl
    · rw [others j hj]
      exact ⟨rfl, rfl⟩
  have searched : u.serviceSearch = u :=
    State.quiet_of_sameService quiet rfl rfl id same fun j refused =>
      (State.slotAllowed_of_lists (s := s) (u := u) j rfl same lists).trans refused
  obtain ⟨t, run, took⟩ := exec_headTaking_quiet s ready u ans channel owed searched
  refine ⟨t, run, took, ?_⟩
  have holds : t.holds = u.holds := by
    unfold State.tookHead at took
    exact (congrArg State.holds took :)
  have slot : t.hold k = some held := by
    rw [State.hold_of_holds holds]
    exact Vector.getElem_set_self _
  unfold State.heldLine
  refine List.any_eq_true.mpr ⟨t.hold k, ?_, ?_⟩
  · exact Array.mem_toList_iff.mpr (Array.getElem_mem _)
  · rw [slot]
    exact beq_self_eq_true (lineOf r.addr)

end Sys2Proof.Machine
end


section
/-! PROOFS. Heads refused, tracked, merged and recorded, and heads that wait for a record slot (O18, O19, O20, O21,
O23). -/

namespace Sys2Proof.Machine

/-! ### Heads in a window -/

/-- The classification of a head in a window of a kind and stream, whatever the System Port holds beside it. -/
theorem State.tryHead_inWindow {s : State} {r : SpRequest} {k : WindowKind} {i : StreamId} (h : s.headInWindow r k i)
    (p : SystemPort) (n : Nat) (hp : p.responses = s.sp.responses) :
    (k = .mirror → (s.withPort p n).tryHead r = (s.withPort p n).mirrorHead r i) ∧
    (k = .gated → ∃ lanes, r.op = .write lanes ∧ (s.withPort p n).tryHead r = (s.withPort p n).gatedHead r i lanes) ∧
    (k = .guarded → (s.withPort p n).tryHead r = (s.withPort p n).guardedHead r i) := by
  obtain ⟨classified, write, w, hw, kind, own⟩ := h
  obtain ⟨lanes, hop⟩ := SpRequest.write_lanes write
  have examined := (State.headExamined_of_classified classified).withPort p n hp
  obtain ⟨-, mirror, gated, guarded⟩ := (s.withPort p n).classify_window r lanes w hop hw
  rw [State.tryHead_of_examined examined, ← own, ← kind]
  exact ⟨mirror, fun e => ⟨lanes, hop, gated e⟩, guarded⟩

theorem State.ready_of_inWindow {s : State} {r : SpRequest} {k : WindowKind} {i : StreamId} (h : s.headInWindow r k i) :
    s.headReady r ∧ r.isWrite = true := ⟨h.1.1, h.2.1⟩

/-! ### Heads refused -/

/-- A refused head is answered ERROR, with its event (R14, R16). -/
theorem State.refuseHead_eq (s : State) (r : SpRequest) (c : EventCode) (i : StreamId) (detail : BitVec 20)
    (write : r.isWrite = true) :
    s.refuseHead r c i detail = { s with
      sp := { s.sp with responses := s.sp.responses ++ [{ tag := r.tag, status := .error, data := [] }] }
      events := (s.put c (some i) detail).events } := by
  obtain ⟨lanes, hop⟩ := SpRequest.write_lanes write
  have data : responseData r.op r.addr .error (lineBytes (fun _ => 0#8)) = [] := by
    unfold responseData
    rw [hop]
  unfold State.refuseHead
  rw [data, State.put_eq, State.put_events_congr (s := s) (t := s.respond r.tag .error []) rfl]
  rfl

theorem exec_headTaking_refused {r : SpRequest} (s : State) (ready : s.headReady r) (write : r.isWrite = true)
    (c : EventCode) (i : StreamId) (detail : BitVec 20)
    (ans : ∀ n, (s.withPort s.sp n).tryHead r = .taken ((s.withPort s.sp n).refuseHead r c i detail)) :
    ∃ t, exec (.headTaking r) s = .next t ∧ State.tookHead { s with
      sp := { s.sp with responses := s.sp.responses ++ [{ tag := r.tag, status := .error, data := [] }] }
      events := (s.put c (some i) detail).events } t := by
  obtain ⟨owed, quiet, channel⟩ := State.quiet_of_ready ready
  refine exec_headTaking_quiet s ready _ (fun n => ?_) channel owed ?_
  · have events := State.put_events_congr (s := s) (t := s.withPort s.sp n) rfl c (some i) detail
    rw [ans, State.refuseHead_eq _ r c i detail write, events]
    rfl
  · exact State.quiet_of_quiet quiet rfl rfl id fun _ served => ⟨served, id, id⟩

/-- Settles O23: a closed gate's stream states, and GUARDED writes of a partner's stream (R14, R16). -/
theorem refusedHead : Obligations.RefusedHead := by
  refine fun r i s => ⟨fun h states => ?_, fun h states => ?_⟩
  · obtain ⟨ready, write⟩ := State.ready_of_inWindow h
    refine exec_headTaking_refused s ready write _ _ _ fun n => ?_
    obtain ⟨lanes, -, ans⟩ := (State.tryHead_inWindow h s.sp n rfl).2.1 rfl
    have state : ((s.withPort s.sp n).stream i).state = (s.stream i).state := rfl
    rw [ans, State.gatedHead, state]
    rcases states with e | e | e <;> rw [e]
  · obtain ⟨ready, write⟩ := State.ready_of_inWindow h
    refine exec_headTaking_refused s ready write _ _ _ fun n => ?_
    have state : ((s.withPort s.sp n).stream i).state = (s.stream i).state := rfl
    rw [(State.tryHead_inWindow h s.sp n rfl).2.2 rfl, State.guardedHead, state]
    rcases states with e | e <;> rw [e] <;> rfl

/-! ### Placed heads -/

/-- A placed head is placed in its stream's list, whatever the System Port holds beside it (R12). -/
theorem State.tryHead_placed {s : State} {r : SpRequest} {i : StreamId} (h : s.headPlaced r i) (p : SystemPort) (n : Nat)
    (hp : p.responses = s.sp.responses) : (s.withPort p n).tryHead r = (s.withPort p n).placeMirror r i := by
  have state : ((s.withPort p n).stream i).state = (s.stream i).state := rfl
  rcases h with ⟨h, mirrors⟩ | ⟨h, active, reached⟩
  · rw [(State.tryHead_inWindow h p n hp).1 rfl, State.mirrorHead, state]
    rcases mirrors with e | e <;> rw [e]
  · obtain ⟨lanes, -, ans⟩ := (State.tryHead_inWindow h p n hp).2.1 rfl
    have opens : ((s.withPort p n).stream i).gateOpen = true := by
      have own : (s.stream i).gateOpen = true := by
        unfold Stream.gateOpen
        rw [active, reached]
        rfl
      exact own
    rw [ans, State.gatedHead_mirrors (s.withPort p n) r i lanes (.inr active), State.gateCheck, if_pos opens]

theorem State.ready_of_placed {s : State} {r : SpRequest} {i : StreamId} (h : s.headPlaced r i) :
    s.headReady r ∧ r.isWrite = true := by
  rcases h with ⟨h, -⟩ | ⟨h, -⟩ <;> exact State.ready_of_inWindow h

/-- The stream of a placed head mirrors. -/
theorem State.mirrors_of_placed {s : State} {r : SpRequest} {i : StreamId} (h : s.headPlaced r i) :
    (s.stream i).mirrors := by
  rcases h with ⟨-, mirrors⟩ | ⟨-, active, -⟩
  · exact mirrors
  · exact .inr active

theorem State.placeMirror_merged (s : State) (r : SpRequest) (i : StreamId) (y : Record)
    (h : (s.stream i).mergeTarget ((s.stream i).cfg.lineIndex r.addr) = some y) :
    s.placeMirror r i = .taken ((s.mergedInto i y.slot r.payload).forward r (.bound i y.slot)) := by
  unfold State.placeMirror
  dsimp only
  rw [s.offer_merged i _ r.payload y h]

theorem State.placeMirror_recorded (s : State) (r : SpRequest) (i : StreamId) (slot : Nat) (rest : List Nat)
    (none_ : (s.stream i).mergeTarget ((s.stream i).cfg.lineIndex r.addr) = none) (allowed : s.slotAllowed i = true)
    (free : s.pool.freeList = slot :: rest) :
    s.placeMirror r i = .taken ((s.recordedIn i slot rest ((s.stream i).cfg.lineIndex r.addr) r.payload).forward r
      (.bound i slot)) := by
  unfold State.placeMirror
  dsimp only
  rw [s.offer_recorded i _ r.payload slot rest none_ allowed free]

theorem State.placeMirror_refused (s : State) (r : SpRequest) (i : StreamId)
    (none_ : (s.stream i).mergeTarget ((s.stream i).cfg.lineIndex r.addr) = none) (refused : s.slotAllowed i = false) :
    ((s.stream i).cfg.policy = .track → s.placeMirror r i = .taken (s.forwardTracked r i)) ∧
    ((s.stream i).cfg.policy = .stall → s.placeMirror r i = .waitsSlot i) := by
  unfold State.placeMirror
  dsimp only
  rw [s.offer_refused i _ r.payload none_ refused]
  exact ⟨fun policy => by rw [policy], fun policy => by rw [policy]⟩

/-! ### Heads merged and recorded -/

theorem Stream.mergeTarget_of (st : Stream) (line : LineIndex) (y : Record) (youngest : st.sendList.getLast? = some y)
    (sent : y.state ≠ .sent) (kind : y.kind ≠ .void) (own : y.line = line) (flag : y.discard = false)
    (count : y.pendingWrites < 16) : st.mergeTarget line = some y := by
  have mergeable : y.mergeable line = true := by
    simp [Record.mergeable, sent, kind, own, flag, count]
  unfold Stream.mergeTarget Stream.youngest?
  rw [youngest]
  exact if_pos mergeable

/-- Settles O19: an offer that merges (R27, R28). -/
theorem mergedHead : Obligations.MergedHead := by
  intro r i y s placed youngest sent kind line flag count
  obtain ⟨ready, write⟩ := State.ready_of_placed placed
  obtain ⟨owed, quiet, channel⟩ := State.quiet_of_ready ready
  have target := Stream.mergeTarget_of (s.stream i) _ y youngest sent kind line flag count
  let m := s.mergedInto i y.slot r.payload
  let u : State := { m with
    engine := (s.perform (lineOf r.addr)).engine, audit := (s.perform (lineOf r.addr)).audit
    mp := s.mp.joined r (.bound i y.slot) }
  have ans (n : Nat) : (s.withPort s.sp n).tryHead r = .taken (u.withPort u.sp n) := by
    rw [State.tryHead_placed placed s.sp n rfl, State.placeMirror_merged (s.withPort s.sp n) r i y target,
      State.forward_of (s := s.withPort s.sp n) (by rfl) (by rfl) (State.cfg_mergedInto _ i y.slot r.payload) write]
    rfl
  have own : u.stream i = _ := s.stream_setStream i _
  have others (j : StreamId) (hj : j ≠ i) : u.stream j = s.stream j := s.stream_setStream_ne i j _ hj
  have same (j : StreamId) : s.sameService u j := by
    by_cases hj : j = i
    · unfold State.sameService
      rw [hj, own]
      exact ⟨rfl, rfl, rfl, rfl⟩
    · exact State.sameService_of_stream (others j hj)
  have lists (j : StreamId) : (u.stream j).usage = (s.stream j).usage ∧
      (u.stream j).sendList.all (fun r => !r.discard) = (s.stream j).sendList.all (fun r => !r.discard) := by
    by_cases hj : j = i
    · rw [hj, own]
      refine ⟨List.length_map _, ?_⟩
      simp only [List.all_map]
      refine congrArg (fun f => (s.stream i).sendList.all f) (funext fun x => ?_)
      dsimp only [Function.comp]
      split <;> rfl
    · rw [others j hj]
      exact ⟨rfl, rfl⟩
  have searched : u.serviceSearch = u :=
    State.quiet_of_sameService quiet rfl rfl (s.idle_of_perform (lineOf r.addr)) same fun j refused =>
      (State.slotAllowed_of_lists (s := s) (u := u) j rfl same lists).trans refused
  exact exec_headTaking_quiet s ready u ans channel owed searched

theorem State.appended_withPort (s : State) (p : SystemPort) (n : Nat) (i : StreamId) (rest : List Nat) (y : Record) :
    (s.withPort p n).appended i rest y = (s.appended i rest y).withPort p n := by
  have events := State.put_events_congr (s := s) (t := s.withPort p n) rfl .poolLow none (BitVec.ofNat 20 rest.length)
  unfold State.appended
  dsimp only
  rw [events]
  rfl

theorem State.recordedIn_withPort (s : State) (p : SystemPort) (n : Nat) (i : StreamId) (slot : Nat) (rest : List Nat)
    (line : LineIndex) (d : Payload) :
    (s.withPort p n).recordedIn i slot rest line d = (s.recordedIn i slot rest line d).withPort p n :=
  s.appended_withPort p n i rest _

/-- Settles O20: an offer that makes a record in the front free slot (R25, R33, R42, R43). -/
theorem recordedHead : Obligations.RecordedHead := by
  intro r i slot rest s placed none_ allowed free
  obtain ⟨ready, write⟩ := State.ready_of_placed placed
  obtain ⟨owed, quiet, channel⟩ := State.quiet_of_ready ready
  let line := (s.stream i).cfg.lineIndex r.addr
  let m := s.recordedIn i slot rest line r.payload
  let u : State := { m with
    engine := (s.perform (lineOf r.addr)).engine, audit := (s.perform (lineOf r.addr)).audit
    mp := s.mp.joined r (.bound i slot) }
  have ans (n : Nat) : (s.withPort s.sp n).tryHead r = .taken (u.withPort u.sp n) := by
    rw [State.tryHead_placed placed s.sp n rfl,
      State.placeMirror_recorded (s.withPort s.sp n) r i slot rest none_ allowed free,
      State.forward_of (s := s.withPort s.sp n) (by rfl) (by rfl)
        (State.cfg_recordedIn _ i slot rest _ r.payload) write, State.recordedIn_withPort]
    rfl
  have same (j : StreamId) : s.sameService u j := by
    by_cases hj : j = i
    · have own : u.stream i = _ := s.stream_setStream i _
      unfold State.sameService
      rw [hj, own]
      exact ⟨rfl, rfl, rfl, rfl⟩
    · exact State.sameService_of_stream (s.stream_setStream_ne i j _ hj)
  have searched : u.serviceSearch = u :=
    State.quiet_of_sameService quiet rfl rfl (s.idle_of_perform (lineOf r.addr)) same fun j refused =>
      s.slotAllowed_appended i slot rest _ free j refused
  obtain ⟨t, run, took⟩ := exec_headTaking_quiet s ready u ans channel owed searched
  refine ⟨t, run, ?_⟩
  have low : u.events = if s.pool.lowArmed = true ∧ rest.length < s.global.poolLowThreshold then
      (s.put .poolLow none (BitVec.ofNat 20 rest.length)).events else s.events := by
    have made : u.events = if s.pool.lowArmed = true ∧ decide (rest.length < s.global.poolLowThreshold) = true then
      (s.put .poolLow none (BitVec.ofNat 20 rest.length)).events else s.events := rfl
    rw [made]
    simp only [decide_eq_true_eq]
  rw [← low]
  exact took

end Sys2Proof.Machine
end


section
/-! PROOFS. Heads tracked, and heads that wait for a record slot (O18, O21). -/

namespace Sys2Proof.Machine

/-! ### Tracked in OPENING and DEGRADED -/

theorem State.forwardTracked_mapped (s : State) (r : SpRequest) (i : StreamId) (write : r.isWrite = true)
    (h : (s.stream i).state = .opening ∨ (s.stream i).state = .degraded) :
    s.forwardTracked r i = { s.setStream i ((s.stream i).markDirty (s.granuleIn i r.addr)) with
      mp := s.mp.joined r (.tracked i (s.lineIn i r.addr))
      engine := (s.perform (lineOf r.addr)).engine, audit := (s.perform (lineOf r.addr)).audit } := by
  have forwarded : s.forwardTracked r i =
    (s.mark i (s.granuleIn i r.addr)).forward r (.tracked i (s.lineIn i r.addr)) := rfl
  have notActive : (s.stream i).state ≠ .active := by rcases h with e | e <;> rw [e] <;> decide
  have mapped := Stream.marked_mapped (s.stream i) (s.granuleIn i r.addr) (by tauto)
  rw [forwarded, State.mark_of_not_active s i _ notActive, mapped]
  exact State.forward_of (s := s) (by rfl) (by rfl) (State.cfg_setStream s i _ (by rfl)) write _

/-! ### A search that no slot lets proceed -/

/-- Where no stream served is allowed a slot the search starts granules, and does no more (R128, R129). -/
theorem State.searchOver_of_refused (l : List StreamId) (s : State)
    (h : ∀ i, (s.stream i).served = true → s.slotAllowed i = false) :
    s.searchOver l = { s with streams := (s.searchOver l).streams } ∧
    ∀ i, (s.searchOver l).stream i = s.stream i ∨
      ((s.stream i).served = true ∧ i ∈ l ∧ (s.searchOver l).stream i = (s.stream i).startGranule) := by
  induction l generalizing s with
  | nil => exact ⟨rfl, fun _ => .inl rfl⟩
  | cons i rest ih =>
    by_cases served : (s.stream i).served = true
    · let v := s.modStream i Stream.startGranule
      have refused : v.slotAllowed i = false := (s.slotAllowed_startGranule i i).trans (h i served)
      have goes : s.searchOver (i :: rest) = v.searchOver rest := by
        rw [State.searchOver.eq_2]
        dsimp only
        rw [if_pos served, if_neg (by rw [refused]; exact Bool.false_ne_true)]
      have own : v.stream i = (s.stream i).startGranule := s.stream_modStream i _
      have others (j : StreamId) (hj : j ≠ i) : v.stream j = s.stream j := s.stream_modStream_ne i j _ hj
      have servedIn (j : StreamId) : (v.stream j).served = (s.stream j).served := by
        by_cases hj : j = i
        · rw [hj, own, Stream.served_startGranule]
        · rw [others j hj]
      obtain ⟨frame, streams⟩ := ih v fun j hj =>
        (s.slotAllowed_startGranule i j).trans (h j ((servedIn j).symm.trans hj))
      rw [goes]
      refine ⟨frame, fun j => ?_⟩
      by_cases hj : j = i
      · subst hj
        rcases streams j with e | ⟨-, -, e⟩
        · exact .inr ⟨served, List.mem_cons_self, e.trans own⟩
        · rw [own, Stream.startGranule_idem] at e
          exact .inr ⟨served, List.mem_cons_self, e⟩
      · rcases streams j with e | ⟨hs, mem, e⟩
        · exact .inl (e.trans (others j hj))
        · rw [others j hj] at hs e
          exact .inr ⟨hs, List.mem_cons_of_mem i mem, e⟩
    · have passes : s.searchOver (i :: rest) = s.searchOver rest := by
        rw [State.searchOver.eq_2]
        dsimp only
        rw [if_neg served]
      obtain ⟨frame, streams⟩ := ih s h
      rw [passes]
      refine ⟨frame, fun j => (streams j).imp_right ?_⟩
      rintro ⟨hs, mem, e⟩
      exact ⟨hs, List.mem_cons_of_mem i mem, e⟩

theorem mem_cyclicAfter (p i : StreamId) : i ∈ cyclicAfter p := by
  revert p i
  decide

/-- The search after a granule was marked, of a state in which no search was due and no stream gained a slot: the
marked stream's lowest granule may be started, and nothing else changes (R128, R129). -/
theorem State.serviceSearch_of_marked {s u : State} {i : StreamId} (quiet : s.serviceSearch = s)
    (soft : u.softReset = s.softReset) (idle : u.engine.state = .idle → s.engine.state = .idle)
    (others : ∀ j, j ≠ i → u.stream j = s.stream j) (refused : u.slotAllowed i = false)
    (allowed : ∀ j, u.slotAllowed j = s.slotAllowed j) :
    u.serviceSearch = { u with streams := u.serviceSearch.streams } ∧
    (∀ j, j ≠ i → u.serviceSearch.stream j = s.stream j) ∧
    (u.serviceSearch.stream i = u.stream i ∨ u.serviceSearch.stream i = (u.stream i).startGranule) := by
  by_cases hu : u.engine.state = .idle ∧ u.softReset = false
  · have vain := s.searchedInVain_of_quiet quiet (idle hu.1) (soft ▸ hu.2)
    have made : u.serviceSearch = u.searchOver (cyclicAfter u.engine.pointer) := if_pos hu
    have vain' (j : StreamId) (hj : j ≠ i) (served : (u.stream j).served = true) :
        (s.stream j).startGranule = s.stream j ∧ s.slotAllowed j = false := by
      rw [others j hj] at served
      exact vain j (mem_cyclicAfter _ j) served
    obtain ⟨frame, streams⟩ := u.searchOver_of_refused (cyclicAfter u.engine.pointer) fun j served => by
      by_cases hj : j = i
      · rw [hj]
        exact refused
      · exact (allowed j).trans (vain' j hj served).2
    rw [made]
    refine ⟨frame, fun j hj => ?_, ?_⟩
    · rcases streams j with e | ⟨served, -, e⟩
      · exact e.trans (others j hj)
      · rw [e, others j hj, (vain' j hj served).1]
    · rcases streams i with e | ⟨-, -, e⟩
      · exact .inl e
      · exact .inr e
  · have stays : u.serviceSearch = u := if_neg hu
    rw [stays]
    exact ⟨rfl, others, .inl rfl⟩

/-- A granule just marked is dirty, or it is the one that a search has started (R129). -/
theorem Stream.marked_or_started {st w : Stream} {g : Nat} (mem : g ∈ st.dirty) (h : w = st ∨ w = st.startGranule) :
    g ∈ w.dirty ∨ w.copyPos = some { granule := g, line := 0 } := by
  rcases h with rfl | rfl
  · exact .inl mem
  · unfold Stream.startGranule
    split
    · next d rest pos dirty =>
      rw [dirty] at mem
      rcases List.mem_cons.mp mem with rfl | later
      · exact .inr rfl
      · exact .inl later
    · exact .inl mem

/-! ### The end of an event that owes at most one entry -/

theorem State.flushOwed_eq (s : State) : s.flushOwed = { s with events := s.flushOwed.events, owed := [] } := by
  have put (l : List OwedEvent) (t : State) : putOwed l t = { t with events := (putOwed l t).events } := by
    induction l generalizing t with
    | nil => rfl
    | cons o rest ih =>
      have step := State.put_eq t .streamState (some o.stream) o.detail
      unfold putOwed
      generalize t.put .streamState (some o.stream) o.detail = v at step ⊢
      have same := ih v
      generalize (putOwed rest v).events = e at same ⊢
      rw [same, step]
  unfold State.flushOwed
  dsimp only
  rw [put]

theorem flatMap_own (i : StreamId) (o : OwedEvent) :
    allStreams.flatMap (fun j => if i = j then [o] else []) = [o] := by
  fin_cases i <;> rfl

theorem State.flushOwed_single (s : State) (i : StreamId) (x : StreamState) (c : Cause) (r : Reason)
    (h : s.owed = [stateEvent i x c r]) :
    s.flushOwed.events = (s.put .streamState (some i) (stateDetail x c r)).events := by
  have filtered (j : StreamId) : s.owed.filter (fun o => o.stream == j) =
      if i = j then [stateEvent i x c r] else [] := by
    rw [h]
    by_cases hj : i = j
    · simp [stateEvent, hj]
    · simp [stateEvent, hj]
  rw [State.flushOwed_events]
  simp only [filtered, flatMap_own]
  rfl

/-- Settles O18: the first part by the mark alone; in the second the search of the event's end may start the granule. -/
theorem trackedHeadForwarded : Obligations.TrackedHeadForwarded := by
  intro r i s
  refine ⟨fun h states => ?_, fun placed none_ refused policy => ?_⟩
  · obtain ⟨ready, write⟩ := State.ready_of_inWindow h
    obtain ⟨owed, quiet, channel⟩ := State.quiet_of_ready ready
    let st := (s.stream i).markDirty (s.granuleIn i r.addr)
    let u : State := { s.setStream i st with
      engine := (s.perform (lineOf r.addr)).engine, audit := (s.perform (lineOf r.addr)).audit
      mp := s.mp.joined r (.tracked i (s.lineIn i r.addr)) }
    have ans (n : Nat) : (s.withPort s.sp n).tryHead r = .taken (u.withPort u.sp n) := by
      have state : ((s.withPort s.sp n).stream i).state = (s.stream i).state := rfl
      have tracked := (s.withPort s.sp n).forwardTracked_mapped r i write states
      rw [(State.tryHead_inWindow h s.sp n rfl).1 rfl, State.mirrorHead, state]
      rcases states with e | e <;> rw [e] <;> exact congrArg HeadAnswer.taken tracked
    have own : u.stream i = st := s.stream_setStream i st
    have others (j : StreamId) (hj : j ≠ i) : u.stream j = s.stream j := s.stream_setStream_ne i j st hj
    have allowed (j : StreamId) : u.slotAllowed j = s.slotAllowed j := by
      refine State.slotAllowed_congr (s := s) (t := u) rfl (fun k => ?_) j
      by_cases hk : k = i
      · rw [hk, own]
        exact ⟨rfl, rfl, rfl⟩
      · rw [others k hk]
        exact ⟨rfl, rfl, rfl⟩
    have searched : u.serviceSearch = u := by
      refine State.quiet_of_quiet quiet rfl rfl (s.idle_of_perform (lineOf r.addr)) fun j served => ?_
      by_cases hj : j = i
      · subst hj
        rw [own] at served
        have resync : (s.stream j).state = .resync := by
          have same : (s.stream j).served = true := served
          have both : (s.stream j).cfg.direction = .send ∧ (s.stream j).state = .resync := by
            simpa [Stream.served] using same
          exact both.2
        rcases states with e | e <;> rw [e] at resync <;> cases resync
      · rw [others j hj] at served ⊢
        exact ⟨served, id, fun no => (allowed j).trans no⟩
    exact exec_headTaking_quiet s ready u ans channel owed searched
  · obtain ⟨ready, write⟩ := State.ready_of_placed placed
    obtain ⟨owed, quiet, channel⟩ := State.quiet_of_ready ready
    have mirrors := State.mirrors_of_placed placed
    have ans (n : Nat) : (s.withPort s.sp n).tryHead r = .taken ((s.withPort s.sp n).forwardTracked r i) := by
      rw [State.tryHead_placed placed s.sp n rfl]
      exact ((s.withPort s.sp n).placeMirror_refused r i none_ refused).1 policy
    have frame (n : Nat) := (s.withPort s.sp n).forwardTracked_frame_of_mirrors r i write mirrors
    obtain ⟨n, run⟩ := exec_headTaking_taken s ready (fun v => v.forwardTracked r i) ans
      fun n => (congrArg (fun v => State.sp v |>.channel) (frame n)).trans channel
    let v := s.withPort s.sp n
    let u := v.forwardTracked r i
    let x := (u.setSlotWait none).flushOwed
    let g := (s.stream i).cfg.granuleOf ((s.stream i).cfg.lineIndex r.addr)
    obtain ⟨inResync, inActive, others, engine⟩ := v.markedAndPerformed_forwardTracked r i write mirrors
    have flushed := (u.setSlotWait none).flushOwed_eq
    have streams : x.streams = u.streams := (congrArg State.streams flushed :)
    have stream (j : StreamId) : x.stream j = u.stream j := State.stream_of_streams _ _ streams j
    have own : (u.stream i).cfg = (s.stream i).cfg ∧ (u.stream i).state = .resync ∧
        (u.stream i).sendList = (s.stream i).sendList ∧ g ∈ (u.stream i).dirty := by
      have mem : g ∈ insertGranule g (s.stream i).dirty := (mem_insertGranule g g _).mpr (.inl rfl)
      rcases mirrors with resync | active
      · have own : u.stream i = _ := (inResync resync).1
        rw [own]
        exact ⟨rfl, resync, rfl, mem⟩
      · have own : u.stream i = _ := (inActive active).1
        rw [own]
        exact ⟨rfl, rfl, rfl, mem⟩
    have other (j : StreamId) (hj : j ≠ i) : x.stream j = s.stream j := (stream j).trans (others j hj)
    have lists (j : StreamId) : (x.stream j).cfg = (s.stream j).cfg ∧
        ((x.stream j).state = .off ↔ (s.stream j).state = .off) ∧ (x.stream j).sendList = (s.stream j).sendList := by
      by_cases hj : j = i
      · obtain ⟨cfg, state, list, -⟩ := own
        rw [hj, stream i, state]
        refine ⟨cfg, ?_, list⟩
        rcases mirrors with e | e <;> rw [e] <;> decide
      · rw [other j hj]
        exact ⟨rfl, Iff.rfl, rfl⟩
    have framed := frame n
    have pool : x.pool = s.pool := (congrArg State.pool flushed :).trans (congrArg State.pool framed :)
    have allowed (j : StreamId) : x.slotAllowed j = s.slotAllowed j := by
      refine State.slotAllowed_of_usage j (congrArg (fun p => p.freeList.length) pool) (fun k => ?_) ?_
      · obtain ⟨cfg, off, list⟩ := lists k
        exact ⟨cfg, off, congrArg List.length list⟩
      · rw [(lists j).2.2]
    have engine' : x.engine = (s.perform (lineOf r.addr)).engine := (congrArg State.engine flushed :).trans engine
    have soft : x.softReset = s.softReset := (congrArg State.softReset flushed :).trans (congrArg State.softReset framed :)
    obtain ⟨searched, kept, started⟩ := State.serviceSearch_of_marked (i := i) quiet soft
      (fun idle => s.idle_of_perform (lineOf r.addr) (by rw [← engine', idle])) other
      ((allowed i).trans refused) allowed
    let t := x.serviceSearch.refreshRequests
    refine ⟨t, run, ?_⟩
    have state : ∀ w, w = x.stream i ∨ w = (x.stream i).startGranule →
        w.state = (u.stream i).state ∧ w.sendList = (u.stream i).sendList := by
      rintro w (rfl | rfl)
      · rw [stream i]
        exact ⟨rfl, rfl⟩
      · rw [Stream.startGranule_frame, stream i]
        exact ⟨rfl, rfl⟩
    obtain ⟨stateOf, listOf⟩ := state _ started
    obtain ⟨-, resync, list, mem⟩ := own
    have channel' : x.sp = { s.sp with channel := [], slotWait := none } := by
      rw [← channel]
      exact (congrArg State.sp flushed :).trans
        (congrArg (fun w => { State.sp w with slotWait := none }) framed :)
    refine ⟨stateOf.trans resync, Stream.marked_or_started (st := x.stream i) (by rw [stream i]; exact mem) started,
      listOf.trans list, kept, ?_, ?_, ?_, ?_, fun here => ?_, fun here alone => ?_⟩
    · exact (congrArg State.sp searched :).trans channel'
    · exact (congrArg State.pool searched :).trans pool
    · exact (congrArg State.holds searched :).trans
        ((congrArg State.holds flushed :).trans (congrArg State.holds framed :))
    · exact (congrArg State.mp searched :).trans ((congrArg State.mp flushed :).trans (congrArg State.mp framed :))
    · obtain ⟨-, nothing, -, events⟩ := inResync here
      have stays : x = u.setSlotWait none := State.flushOwed_of_none _ (nothing.trans owed)
      exact (congrArg State.events searched :).trans ((congrArg State.events stays :).trans events)
    · obtain ⟨-, owes, -, quietly⟩ := inActive here
      obtain ⟨-, events⟩ := quietly alone
      have single : (u.setSlotWait none).owed = [stateEvent i .resync .dirty .none] := by
        refine owes.trans ?_
        rw [show v.owed = [] from owed]
        rfl
      refine (congrArg State.events searched :).trans ((State.flushOwed_single _ i .resync .dirty .none single).trans ?_)
      exact State.put_events_congr (s := s) (t := u.setSlotWait none) events _ _ _

/-! ### Heads that wait for a slot -/

/-- A placed head that is refused a slot waits for one under policy STALL, whatever stands behind it (R12, R13). -/
theorem State.tryHead_lacksSlot {s : State} {head : SpRequest} {i : StreamId} (h : s.noChannel.headLacksSlot head i)
    (p : SystemPort) (n : Nat) (hp : p.responses = s.sp.responses) : (s.withPort p n).tryHead head = .waitsSlot i := by
  obtain ⟨placed, none_, refused, policy⟩ := h
  have ans : (s.withPort p n).tryHead head = (s.withPort p n).placeMirror head i :=
    State.tryHead_placed placed p n hp
  rw [ans]
  exact ((s.withPort p n).placeMirror_refused head i none_ refused).2 policy

theorem State.waitForSlot_of (s : State) (i : StreamId) :
    (s.sp.slotWait = none → s.waitForSlot i = s.setSlotWait (some (s.slotWaitFrom i))) ∧
    ∀ w, s.sp.slotWait = some w →
      (w.stream = i → s.waitForSlot i = s.setSlotWait (some w)) ∧
      (w.stream ≠ i → s.waitForSlot i = s.setSlotWait (some (s.slotWaitFrom i))) := by
  unfold State.waitForSlot
  refine ⟨fun idle => ?_, fun w running => ⟨fun same => ?_, fun other => ?_⟩⟩
  · rw [idle]
    rfl
  · rw [running]
    dsimp only
    rw [if_pos same, State.setSlotWait, ← running]
  · rw [running]
    dsimp only
    rw [if_neg other]
    rfl

/-- HEAD_TAKING behind a front that lacks a slot: the timer is as the wait leaves it (R13). -/
theorem exec_headTaking_lacksSlot {r head : SpRequest} {rest : List SpRequest} {i : StreamId} (s : State) (live : s.live)
    (settled : s.settled) (wf : r.wf = true) (front : s.sp.channel ++ [r] = head :: rest)
    (lacks : s.noChannel.headLacksSlot head i) (wait : SlotWait)
    (waits : ∀ p n, p.slotWait = s.sp.slotWait →
      (s.withPort p n).waitForSlot i = (s.withPort p n).setSlotWait (some wait)) :
    ∃ t, exec (.headTaking r) s = .next t ∧ s.keptHead t (head :: rest) (some wait) :=
  exec_headTaking_kept s live settled wf front (some wait) fun n =>
    (State.drainHead_waitsSlot (head := head) (rest := rest) _ (s.withPort { s.sp with channel := head :: rest } n) i rfl
      (State.tryHead_lacksSlot lacks { s.sp with channel := rest } n rfl)).trans (waits _ n rfl)

/-- Settles O21: the slot-wait timer's three cases, and its expiry (R13). -/
theorem headWaitsForSlot : Obligations.HeadWaitsForSlot := by
  refine ⟨fun r i s lacks idle => ?_, fun r head rest i s live settled front wf lacks => ?_,
    fun r rest w s live running front write mirrors => ?_⟩
  · obtain ⟨ready, -⟩ := State.ready_of_placed lacks.1
    obtain ⟨live, settled, channel, wf, -⟩ := ready
    refine exec_headTaking_lacksSlot s live settled wf (rest := []) ?_ ?_ _ fun p n hp =>
      ((s.withPort p n).waitForSlot_of i).1 (hp.trans idle)
    · rw [channel]
      rfl
    · rw [s.noChannel_of_empty channel]
      exact lacks
  · have joined : s.sp.channel ++ [r] = head :: (rest ++ [r]) := by
      rw [front]
      rfl
    refine ⟨fun idle => ?_, fun w running => ⟨fun same => ?_, fun other => ?_⟩⟩
    · exact exec_headTaking_lacksSlot s live settled wf joined lacks _ fun p n hp =>
        ((s.withPort p n).waitForSlot_of i).1 (hp.trans idle)
    · exact exec_headTaking_lacksSlot s live settled wf joined lacks _ fun p n hp =>
        (((s.withPort p n).waitForSlot_of i).2 w (hp.trans running)).1 same
    · exact exec_headTaking_lacksSlot s live settled wf joined lacks _ fun p n hp =>
        (((s.withPort p n).waitForSlot_of i).2 w (hp.trans running)).2 other
  · let v := s.withPort { s.sp with channel := rest, slotWait := none } s.choices
    have expired : s.slotWaitExpired = v.forwardTracked r w.stream := by
      unfold State.slotWaitExpired
      rw [running, front]
      dsimp only
      refine congrArg (fun x => State.forwardTracked x r w.stream) ?_
      unfold State.setSlotWait State.dropHead
      rw [front]
      rfl
    refine ⟨_, exec_slotWaitTimerExpiry s live (by rw [running]; rfl), ?_, ?_⟩
    · rw [expired]
      exact State.markedAndPerformed_of (t := v) rfl rfl rfl rfl rfl
        (v.markedAndPerformed_forwardTracked r w.stream write mirrors)
    · rw [expired]
      exact v.forwardTracked_frame_of_mirrors r w.stream write mirrors

end Sys2Proof.Machine
end


section
/-! PROOFS. The resets: what a soft reset stops (O4), its completion (O5), and RESET_N (O2). -/

namespace Sys2Proof.Machine

/-! ### During a soft reset -/

/-- The end of an event under a reset that owes nothing (R164, R165). -/
theorem settle_softReset (s : State) (soft : s.softReset = true) (owed : s.owed = []) : settle s = s := by
  rw [settle_stopped s (by rw [soft, Bool.true_or]), State.flushOwed_of_none s owed]

/-- An event whose effect a soft reset stops (R164). -/
theorem happen_stopped {f : State → State} (s : State) (released : s.resetAsserted = false) (soft : s.softReset = true)
    (owed : s.owed = []) (still : f s = s) : happen f s = .next s := by
  rw [happen_of f s released, still, settle_softReset s soft owed]

theorem expiry_stopped {running : State → Bool} {f : State → State} (s : State) (released : s.resetAsserted = false)
    (soft : s.softReset = true) (owed : s.owed = []) : expiry running f s = .next s := by
  refine happen_stopped s released soft owed ?_
  rw [soft, Bool.not_true, Bool.and_false, if_neg Bool.false_ne_true]

theorem exec_expiry_stopped (c : Instr) (kind : isExpiry c = true) (s : State) (released : s.resetAsserted = false)
    (soft : s.softReset = true) (owed : s.owed = []) : exec c s = .next s := by
  cases c with
  | slotWaitTimerExpiry | combineDeadlineExpiry | holdDeadlineExpiry | helloTimerExpiry | trainingTimerExpiry
  | downRetryExpiry | keepaliveTimerExpiry | silenceTimerExpiry | handshakeTimerExpiry | retransmitTimerExpiry
  | ackDelayTimerExpiry | responseTimerExpiry | responderTimerExpiry =>
    simp only [exec]
    exact expiry_stopped s released soft owed
  | _ => cases kind

theorem frameArrives_stopped (s : State) (soft : s.softReset = true) (n : Byte) (owner : State → State) :
    s.frameArrives n owner = s := if_pos soft

theorem exec_arrival_stopped (c : Instr) (kind : isArrival c = true) (wf : c.wf = true) (s : State)
    (released : s.resetAsserted = false) (soft : s.softReset = true) (owed : s.owed = []) : exec c s = .next s := by
  cases c with
  | recArrival f | ackArrival f | nakArrival f | openArrival f | openedArrival f | refuseArrival f | closeArrival f
  | closedArrival f | dgqArrival f | dgrArrival f =>
    simp only [exec]
    exact happen_stopped s released soft owed (frameArrives_stopped s soft f.number _)
  | helloArrival f => exact happen_stopped (f := fun s => s.helloArrives f) s released soft owed (if_pos soft)
  | badFrameArrival => exact happen_stopped (f := State.badFrame) s released soft owed (if_pos soft)
  | unknownKindArrival k =>
    have unknown : isFrameKind k = false := by simpa [Instr.wf] using wf
    have runs : exec (.unknownKindArrival k) s = happen State.unknownKind s := by
      simp only [exec, execUnknownKindArrival, unknown, Bool.false_eq_true, if_false]
    rw [runs]
    exact happen_stopped s released soft owed (if_pos soft)
  | _ => cases kind

/-- Settles O4: the port refuses the word, and the effects of the rest are guarded (R157, R158, R164). -/
theorem softResetStopsWritesAndEvents : Obligations.SoftResetStopsWritesAndEvents := by
  refine ⟨fun c a s hc h soft owed => ?_, fun c s kinds wf soft released owed => ?_⟩
  · obtain ⟨write, -, e⟩ := exec_write c a s hc h.1
    have refused : s.spiWrite a write = s.setSpi (s.mgmt.spi.wrote a true) := by
      unfold State.spiWrite
      rw [if_neg h.2, if_pos soft]
    have port : s.mgmt.spi.wrote a true = SpiPort.mk .write (a + 1) true (s.mgmt.spi.lead .write a ++ [.status true]) := by
      rw [SpiPort.wrote, Bool.or_true]
    rw [e, refused, settle_softReset (s.setSpi (s.mgmt.spi.wrote a true)) soft owed, port]
    rfl
  · rcases kinds with expires | arrives | rfl
    · exact exec_expiry_stopped c expires s released soft owed
    · exact exec_arrival_stopped c arrives wf s released soft owed
    · exact happen_stopped (f := State.transmitGrant) s released soft owed (if_pos soft)

/-! ### The state after a reset -/

/-- The reset state with the Management Port, the Event Queue and the model's own fields of a state. -/
def State.resetIn (s : State) : State :=
  { State.reset with mgmt := s.mgmt, events := s.events, out := s.out, choices := s.choices, pending := s.pending }

theorem settled_resetIn (s : State) : s.resetIn.settled := State.settled_of_searchParts settled_reset rfl rfl rfl

theorem stream_resetIn (s : State) (i : StreamId) : s.resetIn.stream i = Stream.reset := stream_reset i

/-- Nothing stands at the arbiter after a reset, and nothing is wanted (R82). -/
theorem refreshRequests_resetIn (s : State) : s.resetIn.refreshRequests = s.resetIn := by
  have no2 : s.resetIn.wants2 = fun _ => false := funext fun q => by
    cases q with
    | ack i =>
      change decide (0 < (s.resetIn.stream i).ackCount) = false
      rw [stream_resetIn]
      rfl
    | nak i =>
      change (s.resetIn.stream i).nakSlot.isSome = false
      rw [stream_resetIn]
      rfl
  have none2 : standing [] all2 s.resetIn.wants2 = [] := by
    rw [no2]
    rfl
  have none3 : standing [] all3 s.resetIn.wants3 = [] := rfl
  have none4 : standing [] [] s.resetIn.wants4 = [] := rfl
  have same : s.resetIn.refreshRequests = { s.resetIn with link := { s.resetIn.link with
      class2 := standing [] all2 s.resetIn.wants2, class3 := standing [] all3 s.resetIn.wants3
      class4 := standing [] [] s.resetIn.wants4 } } := rfl
  rw [same, none2, none3, none4]
  rfl

theorem settle_resetIn (s : State) : settle s.resetIn = s.resetIn := by
  have stopped : s.resetIn.setSlotWait none = s.resetIn := rfl
  rw [settle_of_settled s.resetIn ⟨rfl, rfl⟩ (settled_resetIn s), State.searchAndDrain_of_empty s.resetIn rfl, stopped,
    (settled_resetIn s).2.2, refreshRequests_resetIn]

/-- No window of the reset state holds an address (R7). -/
theorem windowOf_resetIn (s : State) (a : Addr) : s.resetIn.windowOf a = none := by
  refine List.find?_eq_none.mpr fun w hw => ?_
  have windows : s.resetIn.windows.toList = List.replicate 16 Window.reset := rfl
  rw [windows] at hw
  rw [List.eq_of_mem_replicate hw]
  exact Bool.false_ne_true

theorem perform_resetIn (s : State) (line : Addr) : s.resetIn.perform line = s.resetIn := rfl

/-- The head that waited through a reset is forwarded: no tag, line or window holds it (log 3). -/
theorem exec_headTaking_resetIn (r : SpRequest) (s : State) (wf : r.wf = true) (line : r.crossesLine = false)
    (empty : r.emptyWrite = false) :
    ∃ t, exec (.headTaking r) s.resetIn = .next t ∧
      State.tookHead { s.resetIn with mp := s.resetIn.mp.joined r .plain } t := by
  have ready : s.resetIn.headReady r := ⟨⟨rfl, rfl⟩, settled_resetIn s, rfl, wf, rfl⟩
  obtain ⟨t, run, took⟩ := unrecordedHeadForwarded.1 r s.resetIn
    ⟨⟨ready, line, empty, rfl⟩, .inr (.inl (windowOf_resetIn s r.addr))⟩
  rw [perform_resetIn, ite_self] at took
  exact ⟨t, run, took⟩

/-- The three cases of the channel at a reset's end: empty, a head with others before it, and a head alone (log 3). -/
theorem settle_channel_resetIn (s R : State) (same : R = R.resetIn) :
    (s.sp.channel = [] →
      settle { R with sp := { R.sp with channel := s.sp.channel } } = R) ∧
    (∀ heads r, s.sp.channel = heads ++ [r] → r.wf = true →
      .next (settle { R with sp := { R.sp with channel := s.sp.channel } }) =
        exec (.headTaking r) { R with sp := { R.sp with channel := heads } }) ∧
    (∀ r, s.sp.channel = [r] → r.wf = true → r.crossesLine = false → r.emptyWrite = false →
      ∃ t, .next (settle { R with sp := { R.sp with channel := s.sp.channel } }) =
          (.next t : Host.Outcome State Fault Refusal) ∧
        State.tookHead { R with mp := R.mp.joined r .plain } t) := by
  have idle : { R with sp := { R.sp with channel := [] } } = R := by
    rw [same]
    rfl
  have joins (heads : List SpRequest) (r : SpRequest) (h : s.sp.channel = heads ++ [r]) (wf : r.wf = true) :
      .next (settle { R with sp := { R.sp with channel := s.sp.channel } }) =
        exec (.headTaking r) { R with sp := { R.sp with channel := heads } } := by
    rw [exec_headTaking r _ wf, h]
    rfl
  refine ⟨fun h => ?_, joins, fun r h wf line empty => ?_⟩
  · rw [h, idle, same, settle_resetIn]
  · obtain ⟨t, run, took⟩ := exec_headTaking_resetIn r R wf line empty
    refine ⟨t, ?_, ?_⟩
    · rw [joins [] r h wf, idle, same, run]
    · rw [same]
      exact took

/-- Settles O5: the reset state is quiet, so only a waiting head is left to classify (R163). -/
theorem softResetCompletes : Obligations.SoftResetCompletes := by
  refine ⟨fun s released soft out queue responses => ?_, fun s released soft owed waits => ?_⟩
  · intro R
    have ended : s.resetWaitOver = true := by
      unfold State.resetWaitOver
      rw [soft, out, queue, responses]
      rfl
    have finished : s.finishSoftReset = { R with sp := { R.sp with channel := s.sp.channel } } := rfl
    have run : exec .softResetCompletion s =
        .next (settle { R with sp := { R.sp with channel := s.sp.channel } }) := by
      rw [exec_softResetCompletion s released, if_pos ended, finished]
    rw [run]
    obtain ⟨quiet, joins, takes⟩ := settle_channel_resetIn s R rfl
    exact ⟨fun h => congrArg Host.Outcome.next (quiet h), joins, takes⟩
  · have goesOn : ¬ s.resetWaitOver = true := by
      unfold State.resetWaitOver
      simp only [Bool.and_eq_true, List.isEmpty_iff, and_assoc]
      tauto
    rw [exec_softResetCompletion s released, if_neg goesOn, settle_softReset s soft owed]

/-! ### RESET_N -/

theorem happen_asserted {f : State → State} {s t : State} (h : s.resetAsserted = true) (e : happen f s = .next t) :
    t = s := by
  unfold happen at e
  rw [if_pos h] at e
  cases e
  rfl

/-- While RESET_N is asserted only a request can join the channel (R165, log 14). -/
theorem exec_asserted (c : Instr) (s t : State) (h : s.resetAsserted = true) (hc : c ≠ .resetNRelease)
    (e : exec c s = .next t) : t = s ∨ ∃ r, t = settle (s.joinChannel r) := by
  cases c with
  | headTaking r =>
    simp only [exec, execHeadTaking] at e
    split at e
    · cases e
      exact .inr ⟨r, rfl⟩
    · cases e
  | unknownKindArrival k =>
    simp only [exec, execUnknownKindArrival] at e
    split at e
    · cases e
    · exact .inl (happen_asserted h e)
  | resetNRelease => exact absurd rfl hc
  | _ =>
    simp only [exec] at e
    exact .inl (happen_asserted h e)

theorem exec_resetNRelease (s : State) (h : s.resetAsserted = true) : exec .resetNRelease s = .next (settle s.powerOn) := by
  simp only [exec, execResetNRelease, h, if_true]

theorem alertLow_asserted (s : State) (h : s.resetAsserted = true) : s.alertLow = false := by
  unfold State.alertLow
  rw [h]
  rfl

/-- Settles O2: the assertion, the time under it, and the release to the power-on values (R165). -/
theorem resetNSequence : Obligations.ResetNSequence := by
  refine ⟨fun s released owed => ?_, fun c s t h hc e => ?_, fun s h => ?_, fun n => window_reset n,
    fun i => ?_, rfl, ?_, rfl, rfl, rfl, rfl, rfl, rfl⟩
  · let v : State := { s.setSpi { s.mgmt.spi with miso := [] } with resetAsserted := true }
    have run : exec .resetNAssert s = .next (settle v) :=
      happen_of (fun s => { s.setSpi { s.mgmt.spi with miso := [] } with resetAsserted := true }) s released
    rw [run, settle_stopped v (Bool.or_true _), State.flushOwed_of_none v owed]
    rfl
  · rcases exec_asserted c s t h hc e with rfl | ⟨r, rfl⟩
    · exact ⟨rfl, rfl, rfl, rfl, rfl, rfl, alertLow_asserted _ h⟩
    · have stopped : settle (s.joinChannel r) = (s.joinChannel r).flushOwed :=
        settle_stopped _ (by rw [show (s.joinChannel r).resetAsserted = true from h, Bool.or_true])
      have flushed := (s.joinChannel r).flushOwed_eq
      rw [stopped, flushed]
      exact ⟨rfl, rfl, rfl, rfl, rfl, rfl, alertLow_asserted _ h⟩
  · intro R
    have released : s.powerOn = { R with sp := { R.sp with channel := s.sp.channel } } := rfl
    rw [exec_resetNRelease s h, released]
    obtain ⟨quiet, joins, takes⟩ := settle_channel_resetIn s R rfl
    exact ⟨fun h => congrArg Host.Outcome.next (quiet h), joins, takes⟩
  · rw [stream_reset]
    exact ⟨rfl, rfl⟩
  · unfold State.freeCount
    rw [freeList_reset, List.length_range]

end Sys2Proof.Machine
end
